-- ==== Sys2Proof/Config.lean ====
section
/-! DEFINITION. The fixed implementation parameters of SFV-1 (spec/00_scope.md R6): "A model takes these values; none is
left open".  The widths among them (PHASE_BITS, SAMPLE_BITS, ADDR_BITS, DATA_BITS, COUNT_BITS) are the widths of the types
of Word.lean and Machine/State.lean, the counts (NUM_OSC, NUM_LFO, NUM_SLOTS) the fields of State, SINE_N and EXP_N the
moduli 1024 and 12288 of Machine/Oscillator.lean.  No constant of this model is opaque: no case of SFV-1 is undefined or unpredictable
(spec/93_implementation_defined.md, end of section 2), so there is no free value. -/

namespace Sys2Proof.Config

/-- FTW_MAX: the largest oscillator phase increment, just below Nyquist (R6). -/
def ftwMax : Int := 2 ^ 31 - 1

/-- CUT_MIN: the smallest effective cutoff word (R6). -/
def cutMin : Int := 0x00040000

/-- CUT_MAX: the largest effective cutoff word (R6). -/
def cutMax : Int := 0x7C000000

/-- P_LIM: the pitch clamp, 16 octaves in 1/1024-semitone units (R6). -/
def pLim : Int := 196608

/-- The value of the ID register: "SF", major version 1, minor version 0 (spec/10_state.md R22). -/
def idValue : BitVec 32 := 0x53460100#32

end Sys2Proof.Config
end

