-- ==== Sys2Proof/Word.lean ====
section
/-! DEFINITION. The bit patterns the block's ports and registers carry (spec/10_state.md R15, spec/30_encoding.md R61).
Every value inside a rule is an unbounded integer (R9), so rules compute in `Int`, and only what is stored or carried on a
port has one of these types. -/

namespace Sys2Proof

/-- A 32-bit register, or the data of one control transaction (R15, R49). -/
abbrev Word := BitVec 32

/-- A byte address of the control port (R46: 0x000 to 0x1FF). -/
abbrev Addr := BitVec 9

/-- The canonical transaction word of one operation (R61). -/
abbrev TWord := BitVec 48

/-- One byte lane of a byte-addressed bus the control port may be bridged to (R49). -/
abbrev Byte := BitVec 8

end Sys2Proof
end

