-- ==== Sys2Proof/Machine/Arith.lean ====
section
/-! DEFINITION. The arithmetic primitives every rule uses (spec/00_scope.md R9, R10), over unbounded integers. -/

namespace Sys2Proof.Machine

/-- `fdiv(n, d) = floor(n / d)` for `d > 0` (R10): for a positive divisor Lean's `/` on `Int` rounds toward minus
infinity.  No rule divides by anything else in a legal state. -/
def fdiv (n d : Int) : Int := n / d

/-- `n >> k = fdiv(n, 2^k)`, the arithmetic shift right (R10). -/
def asr (n : Int) (k : Nat) : Int := fdiv n (2 ^ k)

/-- `n << k = n * 2^k` (R10). -/
def shl (n : Int) (k : Nat) : Int := n * 2 ^ k

/-- `clamp(v, lo, hi)` (R10). -/
def clamp (v lo hi : Int) : Int := if v < lo then lo else if v > hi then hi else v

/-- `sat24(v) = clamp(v, -2^23, 2^23 - 1)` (R10). -/
def sat24 (v : Int) : Int := clamp v (-2 ^ 23) (2 ^ 23 - 1)

/-- `wrap32(v) = v mod 2^32`, in `[0, 2^32)` (R10). -/
def wrap32 (v : Int) : Int := v % 2 ^ 32

/-- `sign(v)`: -1, 0 or +1 (R10). -/
def sgn (v : Int) : Int := if v < 0 then -1 else if v = 0 then 0 else 1

/-- `|v|` (R10). -/
def absv (v : Int) : Int := if v < 0 then -v else v

/-- `u32(v) = v mod 2^32` as a 32-bit pattern (R9). -/
def u32 (v : Int) : Word := BitVec.ofInt 32 v

/-- `s32(w)`: the two's-complement reading of a 32-bit pattern (R9). -/
def s32 (w : Word) : Int := if w.toNat < 2 ^ 31 then w.toNat else (w.toNat : Int) - 2 ^ 32

/-- `zext_32(v)`: an N-bit pattern widened with zeros (R9). -/
def zext32 {n : Nat} (v : BitVec n) : Word := v.setWidth 32

/-- `sext_32(v)`: an N-bit pattern widened with its sign (R9). -/
def sext32 {n : Nat} (v : BitVec n) : Word := v.signExtend 32

end Sys2Proof.Machine
end

