-- ==== Sys2Proof/Syntax.lean ====
section
/-! DEFINITION. The operations of SFV-1 as syntax: one constructor of `Instr` for each row of spec/opcode_table.json
(spec/30_encoding.md R65, R66).  Bits of a command word that change nothing (R63) are kept as fields, so that an
instruction says every bit of its transaction word. -/

namespace Sys2Proof

/-- The ten smoothed parameters, in the order of their index i = 0..9 (spec/41_parameters.md R123). -/
inductive Slot where
  /-- 0 BEND -/
  | bend
  /-- 1 DETUNE -/
  | detune
  /-- 2 MIX -/
  | mix
  /-- 3 CUTOFF -/
  | cutoff
  /-- 4 RES -/
  | res
  /-- 5 GAIN -/
  | gain
  /-- 6 LFO_RATE -/
  | lfoRate
  /-- 7 DEPTH_PITCH -/
  | depthPitch
  /-- 8 DEPTH_CUT -/
  | depthCut
  /-- 9 DEPTH_AMP -/
  | depthAmp
  deriving DecidableEq, Repr

/-- An operation of one of the three agents (spec/10_state.md R14, spec/00_scope.md R5). -/
inductive Instr where
  /-- READ ID, ADDR 0x000 (R72). -/
  | rdId
  /-- READ CMD, ADDR 0x004 (R73). -/
  | rdCmd
  /-- READ STATUS, ADDR 0x008 (R74). -/
  | rdStatus
  /-- READ FLAGS, ADDR 0x00C (R75). -/
  | rdFlags
  /-- WRITE FLAGS, ADDR 0x00C (R76). -/
  | wrFlags (data : Word)
  /-- READ IRQ_EN, ADDR 0x010 (R77). -/
  | rdIrqEn
  /-- WRITE IRQ_EN, ADDR 0x010 (R78). -/
  | wrIrqEn (data : Word)
  /-- READ IRQ_PEND, ADDR 0x014 (R79). -/
  | rdIrqPend
  /-- WRITE IRQ_PEND, ADDR 0x014 (R80). -/
  | wrIrqPend (data : Word)
  /-- READ OSC_CTRL, ADDR 0x018 (R81). -/
  | rdOscCtrl
  /-- WRITE OSC_CTRL, ADDR 0x018 (R82). -/
  | wrOscCtrl (data : Word)
  /-- READ FILT_CTRL, ADDR 0x01C (R83). -/
  | rdFiltCtrl
  /-- WRITE FILT_CTRL, ADDR 0x01C (R84). -/
  | wrFiltCtrl (data : Word)
  /-- READ LFO_CTRL, ADDR 0x020 (R85). -/
  | rdLfoCtrl
  /-- WRITE LFO_CTRL, ADDR 0x020 (R86). -/
  | wrLfoCtrl (data : Word)
  /-- READ A4_FTW, ADDR 0x024 (R87). -/
  | rdA4Ftw
  /-- WRITE A4_FTW, ADDR 0x024 (R88). -/
  | wrA4Ftw (data : Word)
  /-- READ FTW_MIN, ADDR 0x028 (R89). -/
  | rdFtwMin
  /-- WRITE FTW_MIN, ADDR 0x028 (R90). -/
  | wrFtwMin (data : Word)
  /-- READ ENV_ATTACK, ADDR 0x02C (R91). -/
  | rdEnvAttack
  /-- WRITE ENV_ATTACK, ADDR 0x02C (R92). -/
  | wrEnvAttack (data : Word)
  /-- READ ENV_DECAY, ADDR 0x030 (R93). -/
  | rdEnvDecay
  /-- WRITE ENV_DECAY, ADDR 0x030 (R94). -/
  | wrEnvDecay (data : Word)
  /-- READ ENV_SUSTAIN, ADDR 0x034 (R95). -/
  | rdEnvSustain
  /-- WRITE ENV_SUSTAIN, ADDR 0x034 (R96). -/
  | wrEnvSustain (data : Word)
  /-- READ ENV_RELEASE, ADDR 0x038 (R97). -/
  | rdEnvRelease
  /-- WRITE ENV_RELEASE, ADDR 0x038 (R98). -/
  | wrEnvRelease (data : Word)
  /-- READ ENV_FLOOR, ADDR 0x03C (R99). -/
  | rdEnvFloor
  /-- WRITE ENV_FLOOR, ADDR 0x03C (R100). -/
  | wrEnvFloor (data : Word)
  /-- READ SCOUNT_LO, ADDR 0x040 (R101). -/
  | rdScountLo
  /-- READ SCOUNT_HI, ADDR 0x044 (R102). -/
  | rdScountHi
  /-- READ START_LO, ADDR 0x048 (R103). -/
  | rdStartLo
  /-- READ START_HI, ADDR 0x04C (R104). -/
  | rdStartHi
  /-- READ OUT, ADDR 0x050 (R105). -/
  | rdOut
  /-- READ ENV_LEVEL, ADDR 0x054 (R106). -/
  | rdEnvLevel
  /-- READ ENV_ELAPSED, ADDR 0x058 (R107). -/
  | rdEnvElapsed
  /-- READ PHASE_A, ADDR 0x05C (R108). -/
  | rdPhaseA
  /-- READ PHASE_B, ADDR 0x060 (R109). -/
  | rdPhaseB
  /-- READ LFO_PHASE, ADDR 0x064 (R110). -/
  | rdLfoPhase
  /-- READ LFO_VALUE, ADDR 0x068 (R111). -/
  | rdLfoValue
  /-- READ FTW_A, ADDR 0x06C (R112). -/
  | rdFtwA
  /-- READ FTW_B, ADDR 0x070 (R113). -/
  | rdFtwB
  /-- READ COEF_B0, ADDR 0x140 (R114). -/
  | rdCoefB0
  /-- READ COEF_B1, ADDR 0x144 (R115). -/
  | rdCoefB1
  /-- READ COEF_B2, ADDR 0x148 (R116). -/
  | rdCoefB2
  /-- READ COEF_A1, ADDR 0x14C (R117). -/
  | rdCoefA1
  /-- READ COEF_A2, ADDR 0x150 (R118). -/
  | rdCoefA2
  /-- READ HIST_X1, ADDR 0x154 (R119). -/
  | rdHistX1
  /-- READ HIST_X2, ADDR 0x158 (R120). -/
  | rdHistX2
  /-- READ HIST_Y1, ADDR 0x15C (R121). -/
  | rdHistY1
  /-- READ HIST_Y2, ADDR 0x160 (R122). -/
  | rdHistY2
  /-- READ TARGET.BEND, ADDR 0x080 (R126). -/
  | rdTargetBend
  /-- WRITE TARGET.BEND, ADDR 0x080 (R125). -/
  | wrTargetBend (data : Word)
  /-- READ CURRENT.BEND, ADDR 0x0C0 (R127). -/
  | rdCurrentBend
  /-- READ SMCFG.BEND, ADDR 0x100 (R129). -/
  | rdSmcfgBend
  /-- WRITE SMCFG.BEND, ADDR 0x100 (R128). -/
  | wrSmcfgBend (data : Word)
  /-- READ TARGET.DETUNE, ADDR 0x084 (R126). -/
  | rdTargetDetune
  /-- WRITE TARGET.DETUNE, ADDR 0x084 (R125). -/
  | wrTargetDetune (data : Word)
  /-- READ CURRENT.DETUNE, ADDR 0x0C4 (R127). -/
  | rdCurrentDetune
  /-- READ SMCFG.DETUNE, ADDR 0x104 (R129). -/
  | rdSmcfgDetune
  /-- WRITE SMCFG.DETUNE, ADDR 0x104 (R128). -/
  | wrSmcfgDetune (data : Word)
  /-- READ TARGET.MIX, ADDR 0x088 (R126). -/
  | rdTargetMix
  /-- WRITE TARGET.MIX, ADDR 0x088 (R125). -/
  | wrTargetMix (data : Word)
  /-- READ CURRENT.MIX, ADDR 0x0C8 (R127). -/
  | rdCurrentMix
  /-- READ SMCFG.MIX, ADDR 0x108 (R129). -/
  | rdSmcfgMix
  /-- WRITE SMCFG.MIX, ADDR 0x108 (R128). -/
  | wrSmcfgMix (data : Word)
  /-- READ TARGET.CUTOFF, ADDR 0x08C (R126). -/
  | rdTargetCutoff
  /-- WRITE TARGET.CUTOFF, ADDR 0x08C (R125). -/
  | wrTargetCutoff (data : Word)
  /-- READ CURRENT.CUTOFF, ADDR 0x0CC (R127). -/
  | rdCurrentCutoff
  /-- READ SMCFG.CUTOFF, ADDR 0x10C (R129). -/
  | rdSmcfgCutoff
  /-- WRITE SMCFG.CUTOFF, ADDR 0x10C (R128). -/
  | wrSmcfgCutoff (data : Word)
  /-- READ TARGET.RES, ADDR 0x090 (R126). -/
  | rdTargetRes
  /-- WRITE TARGET.RES, ADDR 0x090 (R125). -/
  | wrTargetRes (data : Word)
  /-- READ CURRENT.RES, ADDR 0x0D0 (R127). -/
  | rdCurrentRes
  /-- READ SMCFG.RES, ADDR 0x110 (R129). -/
  | rdSmcfgRes
  /-- WRITE SMCFG.RES, ADDR 0x110 (R128). -/
  | wrSmcfgRes (data : Word)
  /-- READ TARGET.GAIN, ADDR 0x094 (R126). -/
  | rdTargetGain
  /-- WRITE TARGET.GAIN, ADDR 0x094 (R125). -/
  | wrTargetGain (data : Word)
  /-- READ CURRENT.GAIN, ADDR 0x0D4 (R127). -/
  | rdCurrentGain
  /-- READ SMCFG.GAIN, ADDR 0x114 (R129). -/
  | rdSmcfgGain
  /-- WRITE SMCFG.GAIN, ADDR 0x114 (R128). -/
  | wrSmcfgGain (data : Word)
  /-- READ TARGET.LFO_RATE, ADDR 0x098 (R126). -/
  | rdTargetLfoRate
  /-- WRITE TARGET.LFO_RATE, ADDR 0x098 (R125). -/
  | wrTargetLfoRate (data : Word)
  /-- READ CURRENT.LFO_RATE, ADDR 0x0D8 (R127). -/
  | rdCurrentLfoRate
  /-- READ SMCFG.LFO_RATE, ADDR 0x118 (R129). -/
  | rdSmcfgLfoRate
  /-- WRITE SMCFG.LFO_RATE, ADDR 0x118 (R128). -/
  | wrSmcfgLfoRate (data : Word)
  /-- READ TARGET.DEPTH_PITCH, ADDR 0x09C (R126). -/
  | rdTargetDepthPitch
  /-- WRITE TARGET.DEPTH_PITCH, ADDR 0x09C (R125). -/
  | wrTargetDepthPitch (data : Word)
  /-- READ CURRENT.DEPTH_PITCH, ADDR 0x0DC (R127). -/
  | rdCurrentDepthPitch
  /-- READ SMCFG.DEPTH_PITCH, ADDR 0x11C (R129). -/
  | rdSmcfgDepthPitch
  /-- WRITE SMCFG.DEPTH_PITCH, ADDR 0x11C (R128). -/
  | wrSmcfgDepthPitch (data : Word)
  /-- READ TARGET.DEPTH_CUT, ADDR 0x0A0 (R126). -/
  | rdTargetDepthCut
  /-- WRITE TARGET.DEPTH_CUT, ADDR 0x0A0 (R125). -/
  | wrTargetDepthCut (data : Word)
  /-- READ CURRENT.DEPTH_CUT, ADDR 0x0E0 (R127). -/
  | rdCurrentDepthCut
  /-- READ SMCFG.DEPTH_CUT, ADDR 0x120 (R129). -/
  | rdSmcfgDepthCut
  /-- WRITE SMCFG.DEPTH_CUT, ADDR 0x120 (R128). -/
  | wrSmcfgDepthCut (data : Word)
  /-- READ TARGET.DEPTH_AMP, ADDR 0x0A4 (R126). -/
  | rdTargetDepthAmp
  /-- WRITE TARGET.DEPTH_AMP, ADDR 0x0A4 (R125). -/
  | wrTargetDepthAmp (data : Word)
  /-- READ CURRENT.DEPTH_AMP, ADDR 0x0E4 (R127). -/
  | rdCurrentDepthAmp
  /-- READ SMCFG.DEPTH_AMP, ADDR 0x124 (R129). -/
  | rdSmcfgDepthAmp
  /-- WRITE SMCFG.DEPTH_AMP, ADDR 0x124 (R128). -/
  | wrSmcfgDepthAmp (data : Word)
  /-- CMD 0x00 NOP; `x` is DATA[23:0], ignored (R133). -/
  | nop (x : BitVec 24)
  /-- CMD 0x01 NOTE_ON; `x` is DATA[23:15] and `x7` DATA[7], ignored (R134, R63). -/
  | noteOn (x : BitVec 9) (note : BitVec 7) (x7 : BitVec 1) (vel : BitVec 7)
  /-- CMD 0x02 NOTE_OFF; `x` is DATA[23:15] and `xlow` DATA[7:0], ignored (R135, R63). -/
  | noteOff (x : BitVec 9) (note : BitVec 7) (xlow : BitVec 8)
  /-- CMD 0x03 VOICE_RESET; `x` is DATA[23:0], ignored (R136). -/
  | voiceReset (x : BitVec 24)
  /-- CMD with a reserved opcode 0x04-0x07; `x` is DATA[23:0], ignored (R137). -/
  | cmdReserved04To07 (op : BitVec 8) (x : BitVec 24)
  /-- CMD with a reserved opcode 0x08-0x0F; `x` is DATA[23:0], ignored (R137). -/
  | cmdReserved08To0F (op : BitVec 8) (x : BitVec 24)
  /-- CMD with a reserved opcode 0x10-0x1F; `x` is DATA[23:0], ignored (R137). -/
  | cmdReserved10To1F (op : BitVec 8) (x : BitVec 24)
  /-- CMD with a reserved opcode 0x20-0x3F; `x` is DATA[23:0], ignored (R137). -/
  | cmdReserved20To3F (op : BitVec 8) (x : BitVec 24)
  /-- CMD with a reserved opcode 0x40-0x7F; `x` is DATA[23:0], ignored (R137). -/
  | cmdReserved40To7F (op : BitVec 8) (x : BitVec 24)
  /-- CMD with a reserved opcode 0x80-0xFF; `x` is DATA[23:0], ignored (R137). -/
  | cmdReserved80ToFF (op : BitVec 8) (x : BitVec 24)
  /-- TICK: one output sample (R138). -/
  | tick
  /-- RESET (R192). -/
  | reset
  /-- READ of a misaligned or reserved address (R71). -/
  | rdBad (addr : Addr)
  /-- WRITE of a misaligned or reserved address or of a read-only register (R71). -/
  | wrBad (addr : Addr) (data : Word)
  deriving DecidableEq, Repr

/-- The agents that act on the block (spec/10_state.md R14). -/
inductive Agent where
  /-- Drives the control port: READ and WRITE. -/
  | control
  /-- Requests one TICK per audio sample. -/
  | tick
  /-- Requests RESET. -/
  | reset
  deriving DecidableEq, Repr

/-- The index i of a slot (R123). -/
def Slot.index : Slot → Nat
  | .bend => 0
  | .detune => 1
  | .mix => 2
  | .cutoff => 3
  | .res => 4
  | .gain => 5
  | .lfoRate => 6
  | .depthPitch => 7
  | .depthCut => 8
  | .depthAmp => 9

/-- READ TARGET[i] (R126) as one family: "one row per slot for each operation, all naming the same rule". -/
def Instr.rdTarget (i : Slot) : Instr :=
  match i with
  | .bend => .rdTargetBend
  | .detune => .rdTargetDetune
  | .mix => .rdTargetMix
  | .cutoff => .rdTargetCutoff
  | .res => .rdTargetRes
  | .gain => .rdTargetGain
  | .lfoRate => .rdTargetLfoRate
  | .depthPitch => .rdTargetDepthPitch
  | .depthCut => .rdTargetDepthCut
  | .depthAmp => .rdTargetDepthAmp

/-- WRITE TARGET[i] (R125) as one family: "one row per slot for each operation, all naming the same rule". -/
def Instr.wrTarget (i : Slot) (data : Word) : Instr :=
  match i with
  | .bend => .wrTargetBend data
  | .detune => .wrTargetDetune data
  | .mix => .wrTargetMix data
  | .cutoff => .wrTargetCutoff data
  | .res => .wrTargetRes data
  | .gain => .wrTargetGain data
  | .lfoRate => .wrTargetLfoRate data
  | .depthPitch => .wrTargetDepthPitch data
  | .depthCut => .wrTargetDepthCut data
  | .depthAmp => .wrTargetDepthAmp data

/-- READ CURRENT[i] (R127) as one family: "one row per slot for each operation, all naming the same rule". -/
def Instr.rdCurrent (i : Slot) : Instr :=
  match i with
  | .bend => .rdCurrentBend
  | .detune => .rdCurrentDetune
  | .mix => .rdCurrentMix
  | .cutoff => .rdCurrentCutoff
  | .res => .rdCurrentRes
  | .gain => .rdCurrentGain
  | .lfoRate => .rdCurrentLfoRate
  | .depthPitch => .rdCurrentDepthPitch
  | .depthCut => .rdCurrentDepthCut
  | .depthAmp => .rdCurrentDepthAmp

/-- READ SMCFG[i] (R129) as one family: "one row per slot for each operation, all naming the same rule". -/
def Instr.rdSmcfg (i : Slot) : Instr :=
  match i with
  | .bend => .rdSmcfgBend
  | .detune => .rdSmcfgDetune
  | .mix => .rdSmcfgMix
  | .cutoff => .rdSmcfgCutoff
  | .res => .rdSmcfgRes
  | .gain => .rdSmcfgGain
  | .lfoRate => .rdSmcfgLfoRate
  | .depthPitch => .rdSmcfgDepthPitch
  | .depthCut => .rdSmcfgDepthCut
  | .depthAmp => .rdSmcfgDepthAmp

/-- WRITE SMCFG[i] (R128) as one family: "one row per slot for each operation, all naming the same rule". -/
def Instr.wrSmcfg (i : Slot) (data : Word) : Instr :=
  match i with
  | .bend => .wrSmcfgBend data
  | .detune => .wrSmcfgDetune data
  | .mix => .wrSmcfgMix data
  | .cutoff => .wrSmcfgCutoff data
  | .res => .wrSmcfgRes data
  | .gain => .wrSmcfgGain data
  | .lfoRate => .wrSmcfgLfoRate data
  | .depthPitch => .wrSmcfgDepthPitch data
  | .depthCut => .wrSmcfgDepthCut data
  | .depthAmp => .wrSmcfgDepthAmp data

end Sys2Proof
end

