-- ==== Sys2Proof/WellFormed.lean ====
section
/-! DEFINITION. Which terms of `Instr` stand for a transaction word.  Written from the address map by regions
(spec/20_memory.md R54), the access types (spec/10_state.md R21, spec/30_encoding.md R65) and the opcode ranges (R66),
not from the decoder's rows, so that the round trip of Decode.lean checks the two against each other. -/

namespace Sys2Proof

/-- `addr` is an aligned address of one of the regions of R54 that hold a register. -/
def Addr.mapped (addr : Addr) : Bool :=
  let a := addr.toNat
  a % 4 == 0 &&
    (a ≤ 0x070 || (0x080 ≤ a && a ≤ 0x0A4) || (0x0C0 ≤ a && a ≤ 0x0E4) || (0x100 ≤ a && a ≤ 0x124)
      || (0x140 ≤ a && a ≤ 0x160))

/-- `addr` is the address of a register that may be written: CMD, FLAGS, IRQ_EN, IRQ_PEND, OSC_CTRL, FILT_CTRL,
LFO_CTRL, A4_FTW, FTW_MIN, ENV_*, TARGET[i], SMCFG[i] (R65). -/
def Addr.writable (addr : Addr) : Bool :=
  let a := addr.toNat
  a % 4 == 0 &&
    (a == 0x004 || (0x00C ≤ a && a ≤ 0x03C) || (0x080 ≤ a && a ≤ 0x0A4) || (0x100 ≤ a && a ≤ 0x124))

/-- A command opcode lies in one row of the reserved opcodes (R66). -/
def opIn (lo hi : Nat) (op : BitVec 8) : Bool := lo ≤ op.toNat && op.toNat ≤ hi

/-- The well-formed instructions: a bad access carries a bad address, a reserved command an opcode of its row. -/
def Instr.wf (i : Instr) : Bool :=
  match i with
  | .rdId | .rdCmd | .rdStatus | .rdFlags
  | .wrFlags _ | .rdIrqEn | .wrIrqEn _ | .rdIrqPend
  | .wrIrqPend _ | .rdOscCtrl | .wrOscCtrl _ | .rdFiltCtrl
  | .wrFiltCtrl _ | .rdLfoCtrl | .wrLfoCtrl _ | .rdA4Ftw
  | .wrA4Ftw _ | .rdFtwMin | .wrFtwMin _ | .rdEnvAttack
  | .wrEnvAttack _ | .rdEnvDecay | .wrEnvDecay _ | .rdEnvSustain
  | .wrEnvSustain _ | .rdEnvRelease | .wrEnvRelease _ | .rdEnvFloor
  | .wrEnvFloor _ | .rdScountLo | .rdScountHi | .rdStartLo
  | .rdStartHi | .rdOut | .rdEnvLevel | .rdEnvElapsed
  | .rdPhaseA | .rdPhaseB | .rdLfoPhase | .rdLfoValue
  | .rdFtwA | .rdFtwB | .rdCoefB0 | .rdCoefB1
  | .rdCoefB2 | .rdCoefA1 | .rdCoefA2 | .rdHistX1
  | .rdHistX2 | .rdHistY1 | .rdHistY2 | .rdTargetBend
  | .wrTargetBend _ | .rdCurrentBend | .rdSmcfgBend | .wrSmcfgBend _
  | .rdTargetDetune | .wrTargetDetune _ | .rdCurrentDetune | .rdSmcfgDetune
  | .wrSmcfgDetune _ | .rdTargetMix | .wrTargetMix _ | .rdCurrentMix
  | .rdSmcfgMix | .wrSmcfgMix _ | .rdTargetCutoff | .wrTargetCutoff _
  | .rdCurrentCutoff | .rdSmcfgCutoff | .wrSmcfgCutoff _ | .rdTargetRes
  | .wrTargetRes _ | .rdCurrentRes | .rdSmcfgRes | .wrSmcfgRes _
  | .rdTargetGain | .wrTargetGain _ | .rdCurrentGain | .rdSmcfgGain
  | .wrSmcfgGain _ | .rdTargetLfoRate | .wrTargetLfoRate _ | .rdCurrentLfoRate
  | .rdSmcfgLfoRate | .wrSmcfgLfoRate _ | .rdTargetDepthPitch | .wrTargetDepthPitch _
  | .rdCurrentDepthPitch | .rdSmcfgDepthPitch | .wrSmcfgDepthPitch _ | .rdTargetDepthCut
  | .wrTargetDepthCut _ | .rdCurrentDepthCut | .rdSmcfgDepthCut | .wrSmcfgDepthCut _
  | .rdTargetDepthAmp | .wrTargetDepthAmp _ | .rdCurrentDepthAmp | .rdSmcfgDepthAmp
  | .wrSmcfgDepthAmp _ | .nop _ | .noteOn _ _ _ _ | .noteOff _ _ _
  | .voiceReset _ | .tick | .reset => true
  | .cmdReserved04To07 op _ => opIn 0x04 0x07 op
  | .cmdReserved08To0F op _ => opIn 0x08 0x0F op
  | .cmdReserved10To1F op _ => opIn 0x10 0x1F op
  | .cmdReserved20To3F op _ => opIn 0x20 0x3F op
  | .cmdReserved40To7F op _ => opIn 0x40 0x7F op
  | .cmdReserved80ToFF op _ => opIn 0x80 0xFF op
  | .rdBad addr => !addr.mapped
  | .wrBad addr _ => !addr.writable

/-- The agent that performs an operation (spec/10_state.md R14). -/
def Instr.agent (i : Instr) : Agent :=
  match i with
  | .tick => .tick
  | .reset => .reset
  | .rdId | .rdCmd | .rdStatus | .rdFlags
  | .wrFlags _ | .rdIrqEn | .wrIrqEn _ | .rdIrqPend
  | .wrIrqPend _ | .rdOscCtrl | .wrOscCtrl _ | .rdFiltCtrl
  | .wrFiltCtrl _ | .rdLfoCtrl | .wrLfoCtrl _ | .rdA4Ftw
  | .wrA4Ftw _ | .rdFtwMin | .wrFtwMin _ | .rdEnvAttack
  | .wrEnvAttack _ | .rdEnvDecay | .wrEnvDecay _ | .rdEnvSustain
  | .wrEnvSustain _ | .rdEnvRelease | .wrEnvRelease _ | .rdEnvFloor
  | .wrEnvFloor _ | .rdScountLo | .rdScountHi | .rdStartLo
  | .rdStartHi | .rdOut | .rdEnvLevel | .rdEnvElapsed
  | .rdPhaseA | .rdPhaseB | .rdLfoPhase | .rdLfoValue
  | .rdFtwA | .rdFtwB | .rdCoefB0 | .rdCoefB1
  | .rdCoefB2 | .rdCoefA1 | .rdCoefA2 | .rdHistX1
  | .rdHistX2 | .rdHistY1 | .rdHistY2 | .rdTargetBend
  | .wrTargetBend _ | .rdCurrentBend | .rdSmcfgBend | .wrSmcfgBend _
  | .rdTargetDetune | .wrTargetDetune _ | .rdCurrentDetune | .rdSmcfgDetune
  | .wrSmcfgDetune _ | .rdTargetMix | .wrTargetMix _ | .rdCurrentMix
  | .rdSmcfgMix | .wrSmcfgMix _ | .rdTargetCutoff | .wrTargetCutoff _
  | .rdCurrentCutoff | .rdSmcfgCutoff | .wrSmcfgCutoff _ | .rdTargetRes
  | .wrTargetRes _ | .rdCurrentRes | .rdSmcfgRes | .wrSmcfgRes _
  | .rdTargetGain | .wrTargetGain _ | .rdCurrentGain | .rdSmcfgGain
  | .wrSmcfgGain _ | .rdTargetLfoRate | .wrTargetLfoRate _ | .rdCurrentLfoRate
  | .rdSmcfgLfoRate | .wrSmcfgLfoRate _ | .rdTargetDepthPitch | .wrTargetDepthPitch _
  | .rdCurrentDepthPitch | .rdSmcfgDepthPitch | .wrSmcfgDepthPitch _ | .rdTargetDepthCut
  | .wrTargetDepthCut _ | .rdCurrentDepthCut | .rdSmcfgDepthCut | .wrSmcfgDepthCut _
  | .rdTargetDepthAmp | .wrTargetDepthAmp _ | .rdCurrentDepthAmp | .rdSmcfgDepthAmp
  | .wrSmcfgDepthAmp _ | .nop _ | .noteOn _ _ _ _ | .noteOff _ _ _
  | .voiceReset _ | .cmdReserved04To07 _ _ | .cmdReserved08To0F _ _ | .cmdReserved10To1F _ _
  | .cmdReserved20To3F _ _ | .cmdReserved40To7F _ _ | .cmdReserved80ToFF _ _ | .rdBad _
  | .wrBad _ _ => .control

end Sys2Proof
end

