-- ==== Sys2Proof/Decode.lean ====
section
/-! DEFINITION. The canonical 48-bit transaction word (spec/30_encoding.md R61 to R68): its fields, the decoder, total on
every word and refusing by name, and the encoder. -/

namespace Sys2Proof

/-- Why a word is not a transaction (R62). -/
inductive NotTransaction where
  /-- RSV, T[45:41], is not 0. -/
  | reservedBits
  /-- ADDR is not 0 in a TICK or a RESET. -/
  | unusedAddr
  /-- DATA is not 0 in a READ, a TICK or a RESET. -/
  | unusedData
  deriving DecidableEq, Repr

/-- What the decoder answers: an operation, or "invalid" with the reason (R62). -/
inductive Decoded where
  | ok (i : Instr)
  | invalid (why : NotTransaction)
  deriving DecidableEq, Repr

/-! The fields of R61: KIND T[47:46], RSV T[45:41], ADDR T[40:32], DATA T[31:0]. -/

/-- T[47:46]: 0 READ, 1 WRITE, 2 TICK, 3 RESET. -/
def kindOf (t : TWord) : BitVec 2 := t.extractLsb' 46 2

/-- T[45:41], must be 0. -/
def rsvOf (t : TWord) : BitVec 5 := t.extractLsb' 41 5

/-- T[40:32], the byte address. -/
def addrOf (t : TWord) : Addr := t.extractLsb' 32 9

/-- T[31:0], the write data. -/
def dataOf (t : TWord) : Word := t.extractLsb' 0 32

/-- The READ rows of the control, status, counter and observation registers, 0x000-0x070 (spec/10_state.md R21). -/
def readRowsControl : List (Nat × Instr) :=
  [
    (0x000, .rdId),
    (0x004, .rdCmd),
    (0x008, .rdStatus),
    (0x00C, .rdFlags),
    (0x010, .rdIrqEn),
    (0x014, .rdIrqPend),
    (0x018, .rdOscCtrl),
    (0x01C, .rdFiltCtrl),
    (0x020, .rdLfoCtrl),
    (0x024, .rdA4Ftw),
    (0x028, .rdFtwMin),
    (0x02C, .rdEnvAttack),
    (0x030, .rdEnvDecay),
    (0x034, .rdEnvSustain),
    (0x038, .rdEnvRelease),
    (0x03C, .rdEnvFloor),
    (0x040, .rdScountLo),
    (0x044, .rdScountHi),
    (0x048, .rdStartLo),
    (0x04C, .rdStartHi),
    (0x050, .rdOut),
    (0x054, .rdEnvLevel),
    (0x058, .rdEnvElapsed),
    (0x05C, .rdPhaseA),
    (0x060, .rdPhaseB),
    (0x064, .rdLfoPhase),
    (0x068, .rdLfoValue),
    (0x06C, .rdFtwA),
    (0x070, .rdFtwB)
  ]

/-- The READ rows of the slot registers TARGET, CURRENT and SMCFG. -/
def readRowsSlots : List (Nat × Instr) :=
  [
    (0x080, .rdTargetBend),
    (0x0C0, .rdCurrentBend),
    (0x100, .rdSmcfgBend),
    (0x084, .rdTargetDetune),
    (0x0C4, .rdCurrentDetune),
    (0x104, .rdSmcfgDetune),
    (0x088, .rdTargetMix),
    (0x0C8, .rdCurrentMix),
    (0x108, .rdSmcfgMix),
    (0x08C, .rdTargetCutoff),
    (0x0CC, .rdCurrentCutoff),
    (0x10C, .rdSmcfgCutoff),
    (0x090, .rdTargetRes),
    (0x0D0, .rdCurrentRes),
    (0x110, .rdSmcfgRes),
    (0x094, .rdTargetGain),
    (0x0D4, .rdCurrentGain),
    (0x114, .rdSmcfgGain),
    (0x098, .rdTargetLfoRate),
    (0x0D8, .rdCurrentLfoRate),
    (0x118, .rdSmcfgLfoRate),
    (0x09C, .rdTargetDepthPitch),
    (0x0DC, .rdCurrentDepthPitch),
    (0x11C, .rdSmcfgDepthPitch),
    (0x0A0, .rdTargetDepthCut),
    (0x0E0, .rdCurrentDepthCut),
    (0x120, .rdSmcfgDepthCut),
    (0x0A4, .rdTargetDepthAmp),
    (0x0E4, .rdCurrentDepthAmp),
    (0x124, .rdSmcfgDepthAmp)
  ]

/-- The READ rows of the filter's coefficients and history, 0x140-0x160. -/
def readRowsFilter : List (Nat × Instr) :=
  [
    (0x140, .rdCoefB0),
    (0x144, .rdCoefB1),
    (0x148, .rdCoefB2),
    (0x14C, .rdCoefA1),
    (0x150, .rdCoefA2),
    (0x154, .rdHistX1),
    (0x158, .rdHistX2),
    (0x15C, .rdHistY1),
    (0x160, .rdHistY2)
  ]

/-- The READ rows: every register of the map of spec/10_state.md R21 is readable, CMD among them (R65). -/
def readRows : List (Nat × Instr) := readRowsControl ++ readRowsSlots ++ readRowsFilter

/-- The WRITE rows of the writable registers but CMD, whose DATA selects the command (R65). -/
def writeRows : List (Nat × (Word → Instr)) :=
  [
    (0x00C, .wrFlags),
    (0x010, .wrIrqEn),
    (0x014, .wrIrqPend),
    (0x018, .wrOscCtrl),
    (0x01C, .wrFiltCtrl),
    (0x020, .wrLfoCtrl),
    (0x024, .wrA4Ftw),
    (0x028, .wrFtwMin),
    (0x02C, .wrEnvAttack),
    (0x030, .wrEnvDecay),
    (0x034, .wrEnvSustain),
    (0x038, .wrEnvRelease),
    (0x03C, .wrEnvFloor),
    (0x080, .wrTargetBend),
    (0x100, .wrSmcfgBend),
    (0x084, .wrTargetDetune),
    (0x104, .wrSmcfgDetune),
    (0x088, .wrTargetMix),
    (0x108, .wrSmcfgMix),
    (0x08C, .wrTargetCutoff),
    (0x10C, .wrSmcfgCutoff),
    (0x090, .wrTargetRes),
    (0x110, .wrSmcfgRes),
    (0x094, .wrTargetGain),
    (0x114, .wrSmcfgGain),
    (0x098, .wrTargetLfoRate),
    (0x118, .wrSmcfgLfoRate),
    (0x09C, .wrTargetDepthPitch),
    (0x11C, .wrSmcfgDepthPitch),
    (0x0A0, .wrTargetDepthCut),
    (0x120, .wrSmcfgDepthCut),
    (0x0A4, .wrTargetDepthAmp),
    (0x124, .wrSmcfgDepthAmp)
  ]

/-- The first row of a list for an address. -/
def rowFor {α : Type} : List (Nat × α) → Nat → Option α
  | [], _ => none
  | (b, r) :: rest, a => if a = b then some r else rowFor rest a

/-- The command a CMD data word selects: OP = DATA[31:24], NOTE = DATA[14:8], VEL = DATA[6:0] (R63, R66). -/
def decodeCommand (data : Word) : Instr :=
  let op : BitVec 8 := data.extractLsb' 24 8
  let x : BitVec 24 := data.extractLsb' 0 24
  if op = 0x00#8 then .nop x
  else if op = 0x01#8 then
    .noteOn (data.extractLsb' 15 9) (data.extractLsb' 8 7) (data.extractLsb' 7 1) (data.extractLsb' 0 7)
  else if op = 0x02#8 then .noteOff (data.extractLsb' 15 9) (data.extractLsb' 8 7) (data.extractLsb' 0 8)
  else if op = 0x03#8 then .voiceReset x
  else if op.toNat ≤ 0x07 then .cmdReserved04To07 op x
  else if op.toNat ≤ 0x0F then .cmdReserved08To0F op x
  else if op.toNat ≤ 0x1F then .cmdReserved10To1F op x
  else if op.toNat ≤ 0x3F then .cmdReserved20To3F op x
  else if op.toNat ≤ 0x7F then .cmdReserved40To7F op x
  else .cmdReserved80ToFF op x

/-- KIND 0: the row for ADDR, else READ.BAD (R65). -/
def decodeRead (addr : Addr) : Instr := (rowFor readRows addr.toNat).getD (.rdBad addr)

/-- KIND 1: CMD, or the row for ADDR, else WRITE.BAD (R65). -/
def decodeWrite (addr : Addr) (data : Word) : Instr :=
  if addr = 0x004#9 then decodeCommand data
  else
    match rowFor writeRows addr.toNat with
    | some row => row data
    | none => .wrBad addr data

/-- The decoder (R61, R62, R65). -/
def decode (t : TWord) : Decoded :=
  if rsvOf t ≠ 0#5 then .invalid .reservedBits
  else if kindOf t = 0#2 then
    if dataOf t ≠ 0#32 then .invalid .unusedData else .ok (decodeRead (addrOf t))
  else if kindOf t = 1#2 then .ok (decodeWrite (addrOf t) (dataOf t))
  else if addrOf t ≠ 0#9 then .invalid .unusedAddr
  else if dataOf t ≠ 0#32 then .invalid .unusedData
  else if kindOf t = 2#2 then .ok .tick
  else .ok .reset

/-- `T = {KIND, RSV, ADDR, DATA}` with RSV = 0 (R61). -/
def mkWord (kind : BitVec 2) (addr : Addr) (data : Word) : TWord := kind ++ 0#5 ++ addr ++ data

/-- The word of a READ (R61). -/
def readWord (addr : Addr) : TWord := mkWord 0#2 addr 0#32

/-- The word of a WRITE (R61). -/
def writeWord (addr : Addr) (data : Word) : TWord := mkWord 1#2 addr data

/-- The word of a WRITE of CMD with opcode `op` and DATA[23:0] = `x` (R63). -/
def commandWord (op : BitVec 8) (x : BitVec 24) : TWord := writeWord 0x004#9 (op ++ x)

/-- The transaction word of an instruction, from the encodings of spec/40_bus_access.md to spec/43_tick.md. -/
def encode (i : Instr) : TWord :=
  match i with
  | .rdId => readWord 0x000#9
  | .rdCmd => readWord 0x004#9
  | .rdStatus => readWord 0x008#9
  | .rdFlags => readWord 0x00C#9
  | .wrFlags data => writeWord 0x00C#9 data
  | .rdIrqEn => readWord 0x010#9
  | .wrIrqEn data => writeWord 0x010#9 data
  | .rdIrqPend => readWord 0x014#9
  | .wrIrqPend data => writeWord 0x014#9 data
  | .rdOscCtrl => readWord 0x018#9
  | .wrOscCtrl data => writeWord 0x018#9 data
  | .rdFiltCtrl => readWord 0x01C#9
  | .wrFiltCtrl data => writeWord 0x01C#9 data
  | .rdLfoCtrl => readWord 0x020#9
  | .wrLfoCtrl data => writeWord 0x020#9 data
  | .rdA4Ftw => readWord 0x024#9
  | .wrA4Ftw data => writeWord 0x024#9 data
  | .rdFtwMin => readWord 0x028#9
  | .wrFtwMin data => writeWord 0x028#9 data
  | .rdEnvAttack => readWord 0x02C#9
  | .wrEnvAttack data => writeWord 0x02C#9 data
  | .rdEnvDecay => readWord 0x030#9
  | .wrEnvDecay data => writeWord 0x030#9 data
  | .rdEnvSustain => readWord 0x034#9
  | .wrEnvSustain data => writeWord 0x034#9 data
  | .rdEnvRelease => readWord 0x038#9
  | .wrEnvRelease data => writeWord 0x038#9 data
  | .rdEnvFloor => readWord 0x03C#9
  | .wrEnvFloor data => writeWord 0x03C#9 data
  | .rdScountLo => readWord 0x040#9
  | .rdScountHi => readWord 0x044#9
  | .rdStartLo => readWord 0x048#9
  | .rdStartHi => readWord 0x04C#9
  | .rdOut => readWord 0x050#9
  | .rdEnvLevel => readWord 0x054#9
  | .rdEnvElapsed => readWord 0x058#9
  | .rdPhaseA => readWord 0x05C#9
  | .rdPhaseB => readWord 0x060#9
  | .rdLfoPhase => readWord 0x064#9
  | .rdLfoValue => readWord 0x068#9
  | .rdFtwA => readWord 0x06C#9
  | .rdFtwB => readWord 0x070#9
  | .rdCoefB0 => readWord 0x140#9
  | .rdCoefB1 => readWord 0x144#9
  | .rdCoefB2 => readWord 0x148#9
  | .rdCoefA1 => readWord 0x14C#9
  | .rdCoefA2 => readWord 0x150#9
  | .rdHistX1 => readWord 0x154#9
  | .rdHistX2 => readWord 0x158#9
  | .rdHistY1 => readWord 0x15C#9
  | .rdHistY2 => readWord 0x160#9
  | .rdTargetBend => readWord 0x080#9
  | .wrTargetBend data => writeWord 0x080#9 data
  | .rdCurrentBend => readWord 0x0C0#9
  | .rdSmcfgBend => readWord 0x100#9
  | .wrSmcfgBend data => writeWord 0x100#9 data
  | .rdTargetDetune => readWord 0x084#9
  | .wrTargetDetune data => writeWord 0x084#9 data
  | .rdCurrentDetune => readWord 0x0C4#9
  | .rdSmcfgDetune => readWord 0x104#9
  | .wrSmcfgDetune data => writeWord 0x104#9 data
  | .rdTargetMix => readWord 0x088#9
  | .wrTargetMix data => writeWord 0x088#9 data
  | .rdCurrentMix => readWord 0x0C8#9
  | .rdSmcfgMix => readWord 0x108#9
  | .wrSmcfgMix data => writeWord 0x108#9 data
  | .rdTargetCutoff => readWord 0x08C#9
  | .wrTargetCutoff data => writeWord 0x08C#9 data
  | .rdCurrentCutoff => readWord 0x0CC#9
  | .rdSmcfgCutoff => readWord 0x10C#9
  | .wrSmcfgCutoff data => writeWord 0x10C#9 data
  | .rdTargetRes => readWord 0x090#9
  | .wrTargetRes data => writeWord 0x090#9 data
  | .rdCurrentRes => readWord 0x0D0#9
  | .rdSmcfgRes => readWord 0x110#9
  | .wrSmcfgRes data => writeWord 0x110#9 data
  | .rdTargetGain => readWord 0x094#9
  | .wrTargetGain data => writeWord 0x094#9 data
  | .rdCurrentGain => readWord 0x0D4#9
  | .rdSmcfgGain => readWord 0x114#9
  | .wrSmcfgGain data => writeWord 0x114#9 data
  | .rdTargetLfoRate => readWord 0x098#9
  | .wrTargetLfoRate data => writeWord 0x098#9 data
  | .rdCurrentLfoRate => readWord 0x0D8#9
  | .rdSmcfgLfoRate => readWord 0x118#9
  | .wrSmcfgLfoRate data => writeWord 0x118#9 data
  | .rdTargetDepthPitch => readWord 0x09C#9
  | .wrTargetDepthPitch data => writeWord 0x09C#9 data
  | .rdCurrentDepthPitch => readWord 0x0DC#9
  | .rdSmcfgDepthPitch => readWord 0x11C#9
  | .wrSmcfgDepthPitch data => writeWord 0x11C#9 data
  | .rdTargetDepthCut => readWord 0x0A0#9
  | .wrTargetDepthCut data => writeWord 0x0A0#9 data
  | .rdCurrentDepthCut => readWord 0x0E0#9
  | .rdSmcfgDepthCut => readWord 0x120#9
  | .wrSmcfgDepthCut data => writeWord 0x120#9 data
  | .rdTargetDepthAmp => readWord 0x0A4#9
  | .wrTargetDepthAmp data => writeWord 0x0A4#9 data
  | .rdCurrentDepthAmp => readWord 0x0E4#9
  | .rdSmcfgDepthAmp => readWord 0x124#9
  | .wrSmcfgDepthAmp data => writeWord 0x124#9 data
  | .nop x => commandWord 0x00#8 x
  | .noteOn x note x7 vel => commandWord 0x01#8 (x ++ note ++ x7 ++ vel)
  | .noteOff x note xlow => commandWord 0x02#8 (x ++ note ++ xlow)
  | .voiceReset x => commandWord 0x03#8 x
  | .cmdReserved04To07 op x => commandWord op x
  | .cmdReserved08To0F op x => commandWord op x
  | .cmdReserved10To1F op x => commandWord op x
  | .cmdReserved20To3F op x => commandWord op x
  | .cmdReserved40To7F op x => commandWord op x
  | .cmdReserved80ToFF op x => commandWord op x
  | .tick => mkWord 2#2 0#9 0#32
  | .reset => mkWord 3#2 0#9 0#32
  | .rdBad addr => readWord addr
  | .wrBad addr data => writeWord addr data

/-- The 48-bit word that a row of spec/opcode_table.json numbers: bit 0 is its least significant bit, and the bits above
`nbits` are 0.  The transaction word is the spec's own notation and lies in no memory (spec/30_encoding.md, opening), so
no byte order enters. -/
def tableWord (nbits w : Nat) : TWord := BitVec.ofNat 48 (w % 2 ^ nbits)

/-- The instruction the decoder reads from the word `w` of a row of the opcode table; no transaction is longer than 48
bits (R68). -/
def decodeTableWord (nbits w : Nat) : Option Instr :=
  if nbits ≤ 48 then
    match decode (tableWord nbits w) with
    | .ok i => some i
    | .invalid _ => none
  else none

end Sys2Proof
end

