-- ==== Sys2Proof/Machine/Slots.lean ====
section
/-! DEFINITION. The table of the ten parameter slots (spec/41_parameters.md R123). -/

namespace Sys2Proof.Machine

/-- One row of the table of R123: how a written DATA word is read, the WARL range and the reset value. -/
structure SlotRow where
  signed : Bool
  lo : Int
  hi : Int
  default : Int
  deriving DecidableEq, Repr

/-- The table of R123, row by row. -/
def slotRow : Slot → SlotRow
  | .bend       => ⟨true, -49152, 49152, 0⟩
  | .detune     => ⟨true, -12288, 12288, 0⟩
  | .mix        => ⟨false, 0, 2 ^ 23, 0⟩
  | .cutoff     => ⟨false, 0x00040000, 0x7C000000, 0x7C000000⟩
  | .res        => ⟨false, 0x0800, 0xFFFF, 0x0B50⟩
  | .gain       => ⟨false, 0, 2 ^ 23, 2 ^ 23⟩
  | .lfoRate    => ⟨false, 0, 2 ^ 28, 447392⟩
  | .depthPitch => ⟨true, -49152, 49152, 0⟩
  | .depthCut   => ⟨true, -2 ^ 31, 2 ^ 31 - 1, 0⟩
  | .depthAmp   => ⟨true, -2 ^ 23, 2 ^ 23, 0⟩

/-- The integer a 32-bit slot word stands for: "`s32(DATA)` if signed else DATA" (R125, spec/30_encoding.md R64). -/
def slotValue (i : Slot) (w : Word) : Int :=
  if (slotRow i).signed then w.toInt else w.toNat

end Sys2Proof.Machine
end

