-- ==== Sys2Proof/Machine/State.lean ====
section
/-! DEFINITION. The state of SFV-1 (spec/10_state.md R16), "exactly the following; nothing else persists between
operations", grouped as R16 groups it, with the two fields of the model's own that R16 does not name: the value a READ
returned (`rdata`) and the operations the agents have issued (`ops`).  The reasons a step can stop, and the state after
RESET (spec/70_reset_and_hazards.md R193). -/

namespace Sys2Proof.Machine

/-- No operation of SFV-1 faults: "SFV-1 raises no synchronous exception" (spec/60_exceptions.md R179), and the keyword
`fault` of spec/93_implementation_defined.md is "unused".  So the type has no constructor: that no step faults holds by
type. -/
inductive Fault where
  deriving DecidableEq, Repr

/-- Why a step has no meaning. -/
inductive Refusal where
  /-- An instruction with no meaning in the model yet, by its mnemonic.  Raised by no arm of exec: every instruction has
  its meaning.  Safe: the model stops. -/
  | notModelled (mnemonic : String)
  /-- Raised by the step when the word presented is not a transaction; "a decoder returns "invalid" for it and a model
  refuses it" (spec/30_encoding.md R62).  Safe: the hardware cannot produce such a word. -/
  | notATransaction (why : NotTransaction)
  deriving DecidableEq, Repr

/-- The envelope stage (R24); the codes 5 to 7 never occur, so they are excluded by the type. -/
inductive Stage where
  | idle | attack | decay | sustain | release
  deriving DecidableEq, Repr

/-- WAVE_A and WAVE_B (R28). -/
inductive Waveform where
  | sine | saw | square | triangle
  deriving DecidableEq, Repr

/-- FILT_CTRL.MODE (R29). -/
inductive FilterMode where
  | lowpass | highpass | bandpass | bypass
  deriving DecidableEq, Repr

/-- LFO_CTRL.SHAPE (R30). -/
inductive LfoShape where
  | sine | triangle | rampUp | rampDown
  deriving DecidableEq, Repr

/-- The sticky flags of FLAGS (R25). -/
inductive Flag where
  | clamp | sat | badcmd | badacc
  deriving DecidableEq, Repr

structure Voice where
  stage : Stage
  note : BitVec 7
  vel : BitVec 7
  deriving DecidableEq, Repr

/-- Q0.32 cycles. -/
structure Phases where
  a : BitVec 32
  b : BitVec 32
  deriving DecidableEq, Repr

/-- Q0.32 cycles a tick. -/
structure Increments where
  a : BitVec 32
  b : BitVec 32
  deriving DecidableEq, Repr

structure OscCtrl where
  waveA : Waveform
  waveB : Waveform
  freeRun : Bool
  deriving DecidableEq, Repr

/-- Each in [1, 2^31 - 1]. -/
structure Tuning where
  a4Ftw : BitVec 32
  ftwMin : BitVec 32
  deriving DecidableEq, Repr

/-- Q3.29, signed. -/
structure Coefs where
  b0 : BitVec 32
  b1 : BitVec 32
  b2 : BitVec 32
  a1 : BitVec 32
  a2 : BitVec 32
  deriving DecidableEq, Repr

/-- S24 samples: two prior inputs and two prior outputs. -/
structure Hist where
  x1 : BitVec 24
  x2 : BitVec 24
  y1 : BitVec 24
  y2 : BitVec 24
  deriving DecidableEq, Repr

/-- `phase` is Q0.32; `value` is in [-2^23, 2^23], 25 bits signed (spec/00_scope.md R11). -/
structure Lfo where
  phase : BitVec 32
  value : BitVec 25
  shape : LfoShape
  deriving DecidableEq, Repr

/-- `level` is in [0, 2^23], wider than S24 (spec/00_scope.md R11); `elapsed` in [0, 2^32 - 1]. -/
structure Env where
  level : BitVec 25
  elapsed : BitVec 32
  deriving DecidableEq, Repr

/-- `att`, `dec`, `rel` in [1, 2^23]; `sus`, `floor` in [0, 2^23]. -/
structure EnvCtrl where
  att : BitVec 24
  dec : BitVec 24
  sus : BitVec 24
  rel : BitVec 24
  floor : BitVec 24
  deriving DecidableEq, Repr

/-- The registers of one slot: TARGET[i], CURRENT[i] and the fields of SMCFG[i] (R44). -/
structure SlotRegs where
  tgt : BitVec 32
  cur : BitVec 32
  shift : BitVec 5
  maxstep : BitVec 24
  deriving DecidableEq, Repr

/-- The ten slots by name (spec/41_parameters.md R123). -/
structure SlotFile where
  bend : SlotRegs
  detune : SlotRegs
  mix : SlotRegs
  cutoff : SlotRegs
  res : SlotRegs
  gain : SlotRegs
  lfoRate : SlotRegs
  depthPitch : SlotRegs
  depthCut : SlotRegs
  depthAmp : SlotRegs
  deriving DecidableEq, Repr

structure Counters where
  scount : BitVec 64
  shadow : BitVec 32
  start : BitVec 64
  deriving DecidableEq, Repr

/-- The state of one SFV-1 block (R16), and the model's own `rdata` and `ops`. -/
structure State where
  /-- The note's identity: STAGE, NOTE, VELOCITY of STATUS (R24). -/
  voice : Voice
  /-- The two phase accumulators (R42, spec/44_oscillator.md R152). -/
  osc : Phases
  /-- The phase increments the last TICK computed (R42). -/
  ftw : Increments
  /-- OSC_CTRL (R28). -/
  oscCtl : OscCtrl
  /-- A4_FTW and FTW_MIN (R31, R32). -/
  tuning : Tuning
  /-- FILT_CTRL.MODE (R29). -/
  mode : FilterMode
  /-- The filter coefficients the last TICK computed (R45). -/
  coef : Coefs
  /-- The filter history (R45). -/
  hist : Hist
  /-- The LFO (R30, R43). -/
  lfo : Lfo
  /-- The envelope's level and elapsed time (R41). -/
  env : Env
  /-- ENV_ATTACK .. ENV_FLOOR (R33 to R37). -/
  envCtl : EnvCtrl
  /-- The parameter slot file (R44). -/
  slots : SlotFile
  /-- SCOUNT, its shadow and START (R38, R39). -/
  counters : Counters
  /-- OUT, the S24 sample the last TICK produced (R40). -/
  out : BitVec 24
  /-- FLAGS: {BADACC, BADCMD, SAT, CLAMP} (R25). -/
  flags : BitVec 4
  /-- IRQ_EN.IDLE (R26). -/
  irqEn : Bool
  /-- IRQ_PEND.IDLE (R27). -/
  irqPend : Bool
  /-- THE MODEL'S OWN: the value the operation just performed returned on `ctl_rdata` (R15), none if it returned none. -/
  rdata : Option Word
  /-- THE MODEL'S OWN: the operations the agents have issued and the block has not yet performed, in the total order of
  spec/20_memory.md R56 (the parameter `ops : List Op` of spec/92_eei_decisions.md D3). -/
  ops : List TWord
  deriving DecidableEq, Repr

/-- The registers of slot i. -/
def SlotFile.get (f : SlotFile) (i : Slot) : SlotRegs :=
  match i with
  | .bend => f.bend
  | .detune => f.detune
  | .mix => f.mix
  | .cutoff => f.cutoff
  | .res => f.res
  | .gain => f.gain
  | .lfoRate => f.lfoRate
  | .depthPitch => f.depthPitch
  | .depthCut => f.depthCut
  | .depthAmp => f.depthAmp

/-- The slot file with the registers of slot i replaced. -/
def SlotFile.set (f : SlotFile) (i : Slot) (r : SlotRegs) : SlotFile :=
  match i with
  | .bend => { f with bend := r }
  | .detune => { f with detune := r }
  | .mix => { f with mix := r }
  | .cutoff => { f with cutoff := r }
  | .res => { f with res := r }
  | .gain => { f with gain := r }
  | .lfoRate => { f with lfoRate := r }
  | .depthPitch => { f with depthPitch := r }
  | .depthCut => { f with depthCut := r }
  | .depthAmp => { f with depthAmp := r }

/-- The registers of slot i after RESET: TARGET and CURRENT at the slot's default, SHIFT 5, MAXSTEP 0 (R44, R193). -/
def SlotRegs.reset (i : Slot) : SlotRegs :=
  { tgt := BitVec.ofInt 32 (slotRow i).default, cur := BitVec.ofInt 32 (slotRow i).default, shift := 5#5, maxstep := 0#24 }

namespace State

/-! The updates, one a field.  Laws/State.lean says of each what it writes and what it leaves. -/

def setVoice (s : State) (v : Voice) : State := { s with voice := v }
def setOsc (s : State) (v : Phases) : State := { s with osc := v }
def setFtw (s : State) (v : Increments) : State := { s with ftw := v }
def setOscCtl (s : State) (v : OscCtrl) : State := { s with oscCtl := v }
def setTuning (s : State) (v : Tuning) : State := { s with tuning := v }
def setMode (s : State) (v : FilterMode) : State := { s with mode := v }
def setCoef (s : State) (v : Coefs) : State := { s with coef := v }
def setHist (s : State) (v : Hist) : State := { s with hist := v }
def setLfo (s : State) (v : Lfo) : State := { s with lfo := v }
def setEnv (s : State) (v : Env) : State := { s with env := v }
def setEnvCtl (s : State) (v : EnvCtrl) : State := { s with envCtl := v }
def setSlots (s : State) (v : SlotFile) : State := { s with slots := v }
def setCounters (s : State) (v : Counters) : State := { s with counters := v }
def setOut (s : State) (v : BitVec 24) : State := { s with out := v }
def setFlags (s : State) (v : BitVec 4) : State := { s with flags := v }
def setIrqEn (s : State) (v : Bool) : State := { s with irqEn := v }
def setIrqPend (s : State) (v : Bool) : State := { s with irqPend := v }
def setRdata (s : State) (v : Option Word) : State := { s with rdata := v }
def setOps (s : State) (v : List TWord) : State := { s with ops := v }

/-- The state after RESET: the table of R193, row by row, no value returned and no operation pending. -/
def reset : State where
  voice := { stage := .idle, note := 0#7, vel := 0#7 }
  osc := { a := 0#32, b := 0#32 }
  ftw := { a := 0#32, b := 0#32 }
  oscCtl := { waveA := .sine, waveB := .sine, freeRun := false }
  tuning := { a4Ftw := 39370534#32, ftwMin := 1789570#32 }
  mode := .lowpass
  coef := { b0 := 0#32, b1 := 0#32, b2 := 0#32, a1 := 0#32, a2 := 0#32 }
  hist := { x1 := 0#24, x2 := 0#24, y1 := 0#24, y2 := 0#24 }
  lfo := { phase := 0#32, value := 0#25, shape := .sine }
  env := { level := 0#25, elapsed := 0#32 }
  envCtl := { att := 0x800000#24, dec := 0x800000#24, sus := 0x800000#24, rel := 0x800000#24, floor := 0#24 }
  slots :=
    { bend := .reset .bend, detune := .reset .detune, mix := .reset .mix, cutoff := .reset .cutoff, res := .reset .res,
      gain := .reset .gain, lfoRate := .reset .lfoRate, depthPitch := .reset .depthPitch, depthCut := .reset .depthCut,
      depthAmp := .reset .depthAmp }
  counters := { scount := 0#64, shadow := 0#32, start := 0#64 }
  out := 0#24
  flags := 0#4
  irqEn := false
  irqPend := false
  rdata := none
  ops := []

end State

end Sys2Proof.Machine
end

