-- ==== Sys2Proof/Machine/Flags.lean ====
section
/-! DEFINITION. FLAGS and IRQ_PEND: the sticky bits (spec/10_state.md R25, R27, spec/60_exceptions.md R180 to R182).  No
flag stops, delays or alters any operation. -/

namespace Sys2Proof.Machine

/-- The bit number of a flag, its "cause code" (R25, R180). -/
def Flag.bit : Flag → Nat
  | .clamp => 0
  | .sat => 1
  | .badcmd => 2
  | .badacc => 3

/-- The value of a flag. -/
def flagOf (f : Flag) (s : State) : Bool := s.flags.getLsbD f.bit

/-- `set FLAGS.X`: sticky (spec/00_scope.md R12). -/
def setFlag (f : Flag) (s : State) : State := s.setFlags (s.flags ||| (1#4 <<< f.bit))

/-- `if c: set FLAGS.X`. -/
def setFlagIf (c : Bool) (f : Flag) (s : State) : State := if c then setFlag f s else s

/-- The W1C write of FLAGS: `flags <- flags AND NOT DATA[3:0]` (spec/40_bus_access.md R76). -/
def clearFlags (data : Word) (s : State) : State := s.setFlags (s.flags &&& ~~~(data.extractLsb' 0 4))

/-- `set IRQ_PEND.IDLE` when a release has ended (spec/47_envelope.md R176); recorded whether or not it is enabled. -/
def pendIdleIf (ended : Bool) (s : State) : State := s.setIrqPend (s.irqPend || ended)

/-- The W1C write of IRQ_PEND: `irq_pend <- irq_pend AND NOT DATA[0]` (R80). -/
def clearPend (data : Word) (s : State) : State := s.setIrqPend (s.irqPend && !data.getLsbD 0)

end Sys2Proof.Machine
end

