-- ==== Sys2Proof/Machine/Ops.lean ====
section
/-! DEFINITION. The shared operations of the control port: answering a READ, storing through a WARL field, and the bad
accesses.  Taking an exception has no operation here: SFV-1 has no exception, no trap entry and no return
(spec/60_exceptions.md R179, R183); the one event it records is IRQ_PEND.IDLE (Flags.lean). -/

namespace Sys2Proof.Machine

/-- A READ that returns `v` (`rdata <- v`) and has no other effect (spec/20_memory.md R47, R53). -/
def answer (v : Word) (s : State) : Host.Outcome State Fault Refusal := .next (s.setRdata (some v))

/-- A WRITE of a WARL field (spec/10_state.md R20, spec/92_eei_decisions.md D26): `v <- clamp(x, lo, hi)`; if `v != x`
then `set FLAGS.CLAMP`; then the field takes `v`, here as a 32-bit pattern. -/
def warl (x lo hi : Int) (store : Word → State → State) (s : State) : Host.Outcome State Fault Refusal :=
  let v := clamp x lo hi
  .next (store (u32 v) (setFlagIf (v != x) .clamp s))

/-- READ.BAD: `rdata <- 0; set FLAGS.BADACC` (spec/40_bus_access.md R71). -/
def badRead (s : State) : Host.Outcome State Fault Refusal := answer 0#32 (setFlag .badacc s)

/-- WRITE.BAD: `set FLAGS.BADACC`; DATA is discarded (R71). -/
def badWrite (s : State) : Host.Outcome State Fault Refusal := .next (setFlag .badacc s)

/-- A reserved command: `set FLAGS.BADCMD`, nothing else changes (spec/42_commands.md R137). -/
def badCommand (s : State) : Host.Outcome State Fault Refusal := .next (setFlag .badcmd s)

end Sys2Proof.Machine
end

