-- ==== Sys2Proof/Machine/Operands.lean ====
section
/-! DEFINITION. How operands and register fields are read and laid out (spec/30_encoding.md R64, spec/10_state.md R24 to
R30): the codes of the enumerated fields, and the values of the cells a TICK reads. -/

namespace Sys2Proof.Machine

/-- STAGE: 0 IDLE, 1 ATTACK, 2 DECAY, 3 SUSTAIN, 4 RELEASE (R24). -/
def Stage.code : Stage → BitVec 3
  | .idle => 0#3
  | .attack => 1#3
  | .decay => 2#3
  | .sustain => 3#3
  | .release => 4#3

/-- WAVE: 0 SINE, 1 SAW, 2 SQUARE, 3 TRIANGLE (R28). -/
def Waveform.code : Waveform → BitVec 2
  | .sine => 0#2
  | .saw => 1#2
  | .square => 2#2
  | .triangle => 3#2

/-- The waveform of a code; every code is legal (R28). -/
def Waveform.ofCode (c : BitVec 2) : Waveform :=
  if c = 0#2 then .sine else if c = 1#2 then .saw else if c = 2#2 then .square else .triangle

/-- MODE: 0 LOWPASS, 1 HIGHPASS, 2 BANDPASS, 3 BYPASS (R29). -/
def FilterMode.code : FilterMode → BitVec 2
  | .lowpass => 0#2
  | .highpass => 1#2
  | .bandpass => 2#2
  | .bypass => 3#2

/-- The mode of a code; every code is legal (R29). -/
def FilterMode.ofCode (c : BitVec 2) : FilterMode :=
  if c = 0#2 then .lowpass else if c = 1#2 then .highpass else if c = 2#2 then .bandpass else .bypass

/-- SHAPE: 0 SINE, 1 TRIANGLE, 2 RAMP_UP, 3 RAMP_DOWN (R30). -/
def LfoShape.code : LfoShape → BitVec 2
  | .sine => 0#2
  | .triangle => 1#2
  | .rampUp => 2#2
  | .rampDown => 3#2

/-- The shape of a code; every code is legal (R30). -/
def LfoShape.ofCode (c : BitVec 2) : LfoShape :=
  if c = 0#2 then .sine else if c = 1#2 then .triangle else if c = 2#2 then .rampUp else .rampDown

/-- ACTIVE: the stage is not IDLE (R24). -/
def Stage.active (g : Stage) : Bool := g != .idle

/-- STATUS: `zext_32({vel[6:0], 0b0, note[6:0], 0b0000, (stage != IDLE), stage[2:0]})` (spec/40_bus_access.md R74). -/
def statusWord (v : Voice) : Word :=
  zext32 (v.vel ++ 0#1 ++ v.note ++ 0#4 ++ BitVec.ofBool v.stage.active ++ v.stage.code)

/-- OSC_CTRL: `zext_32({free_run, 0b00, wave_b[1:0], 0b00, wave_a[1:0]})` (R81). -/
def oscCtrlWord (c : OscCtrl) : Word :=
  zext32 (BitVec.ofBool c.freeRun ++ 0#2 ++ c.waveB.code ++ 0#2 ++ c.waveA.code)

/-- `wave_a <- DATA[1:0]; wave_b <- DATA[5:4]; free_run <- DATA[8]` (R82). -/
def oscCtrlOf (data : Word) : OscCtrl :=
  { waveA := .ofCode (data.extractLsb' 0 2), waveB := .ofCode (data.extractLsb' 4 2), freeRun := data.getLsbD 8 }

/-- The integer CURRENT[i] stands for: what every modulated value of a TICK uses (spec/43_tick.md R140). -/
def curOf (i : Slot) (s : State) : Int := slotValue i (s.slots.get i).cur

/-- The integer TARGET[i] stands for. -/
def tgtOf (i : Slot) (s : State) : Int := slotValue i (s.slots.get i).tgt

end Sys2Proof.Machine
end

