-- ==== Sys2Proof/Machine/BusRead.lean ====
section
/-! DEFINITION. READ of every control, status, counter and observation register (spec/40_bus_access.md R71 to R122). -/

namespace Sys2Proof.Machine

/-- READ ID: constant, "0x5346_0100 at all times" (R72, spec/10_state.md R22). -/
def execRdId (s : State) : Host.Outcome State Fault Refusal :=
  answer Sys2Proof.Config.idValue s

/-- READ CMD: CMD is write-only and holds no state; returns 0, performs nothing, sets no flag (R73). -/
def execRdCmd (s : State) : Host.Outcome State Fault Refusal :=
  answer 0#32 s

/-- READ STATUS (R74). -/
def execRdStatus (s : State) : Host.Outcome State Fault Refusal :=
  answer (statusWord s.voice) s

/-- READ FLAGS: reading does not clear (R75). -/
def execRdFlags (s : State) : Host.Outcome State Fault Refusal :=
  answer (zext32 s.flags) s

/-- READ IRQ_EN (R77). -/
def execRdIrqEn (s : State) : Host.Outcome State Fault Refusal :=
  answer (zext32 (BitVec.ofBool s.irqEn)) s

/-- READ IRQ_PEND: reading does not clear (R79). -/
def execRdIrqPend (s : State) : Host.Outcome State Fault Refusal :=
  answer (zext32 (BitVec.ofBool s.irqPend)) s

/-- READ OSC_CTRL (R81). -/
def execRdOscCtrl (s : State) : Host.Outcome State Fault Refusal :=
  answer (oscCtrlWord s.oscCtl) s

/-- READ FILT_CTRL (R83). -/
def execRdFiltCtrl (s : State) : Host.Outcome State Fault Refusal :=
  answer (zext32 s.mode.code) s

/-- READ LFO_CTRL (R85). -/
def execRdLfoCtrl (s : State) : Host.Outcome State Fault Refusal :=
  answer (zext32 s.lfo.shape.code) s

/-- READ A4_FTW (R87). -/
def execRdA4Ftw (s : State) : Host.Outcome State Fault Refusal :=
  answer s.tuning.a4Ftw s

/-- READ FTW_MIN (R89). -/
def execRdFtwMin (s : State) : Host.Outcome State Fault Refusal :=
  answer s.tuning.ftwMin s

/-- READ ENV_ATTACK (R91). -/
def execRdEnvAttack (s : State) : Host.Outcome State Fault Refusal :=
  answer (zext32 s.envCtl.att) s

/-- READ ENV_DECAY (R93). -/
def execRdEnvDecay (s : State) : Host.Outcome State Fault Refusal :=
  answer (zext32 s.envCtl.dec) s

/-- READ ENV_SUSTAIN (R95). -/
def execRdEnvSustain (s : State) : Host.Outcome State Fault Refusal :=
  answer (zext32 s.envCtl.sus) s

/-- READ ENV_RELEASE (R97). -/
def execRdEnvRelease (s : State) : Host.Outcome State Fault Refusal :=
  answer (zext32 s.envCtl.rel) s

/-- READ ENV_FLOOR (R99). -/
def execRdEnvFloor (s : State) : Host.Outcome State Fault Refusal :=
  answer (zext32 s.envCtl.floor) s

/-- READ SCOUNT_LO: simultaneously `rdata <- scount[31:0]; shadow <- scount[63:32]` (R101, R38). -/
def execRdScountLo (s : State) : Host.Outcome State Fault Refusal :=
  answer (s.counters.scount.extractLsb' 0 32)
    (s.setCounters { s.counters with shadow := s.counters.scount.extractLsb' 32 32 })

/-- READ SCOUNT_HI: the shadow, not the live high half (R102). -/
def execRdScountHi (s : State) : Host.Outcome State Fault Refusal :=
  answer s.counters.shadow s

/-- READ START_LO (R103). -/
def execRdStartLo (s : State) : Host.Outcome State Fault Refusal :=
  answer (s.counters.start.extractLsb' 0 32) s

/-- READ START_HI (R104). -/
def execRdStartHi (s : State) : Host.Outcome State Fault Refusal :=
  answer (s.counters.start.extractLsb' 32 32) s

/-- READ OUT: `u32(out)`, sign-extended (R105). -/
def execRdOut (s : State) : Host.Outcome State Fault Refusal :=
  answer (sext32 s.out) s

/-- READ ENV_LEVEL: zero-extended (R106, R41). -/
def execRdEnvLevel (s : State) : Host.Outcome State Fault Refusal :=
  answer (zext32 s.env.level) s

/-- READ ENV_ELAPSED (R107). -/
def execRdEnvElapsed (s : State) : Host.Outcome State Fault Refusal :=
  answer s.env.elapsed s

/-- READ PHASE_A (R108). -/
def execRdPhaseA (s : State) : Host.Outcome State Fault Refusal :=
  answer s.osc.a s

/-- READ PHASE_B (R109). -/
def execRdPhaseB (s : State) : Host.Outcome State Fault Refusal :=
  answer s.osc.b s

/-- READ LFO_PHASE (R110). -/
def execRdLfoPhase (s : State) : Host.Outcome State Fault Refusal :=
  answer s.lfo.phase s

/-- READ LFO_VALUE: `u32(lfo_value)`, sign-extended (R111). -/
def execRdLfoValue (s : State) : Host.Outcome State Fault Refusal :=
  answer (sext32 s.lfo.value) s

/-- READ FTW_A (R112). -/
def execRdFtwA (s : State) : Host.Outcome State Fault Refusal :=
  answer s.ftw.a s

/-- READ FTW_B (R113). -/
def execRdFtwB (s : State) : Host.Outcome State Fault Refusal :=
  answer s.ftw.b s

/-- READ COEF_B0 (R114). -/
def execRdCoefB0 (s : State) : Host.Outcome State Fault Refusal :=
  answer s.coef.b0 s

/-- READ COEF_B1 (R115). -/
def execRdCoefB1 (s : State) : Host.Outcome State Fault Refusal :=
  answer s.coef.b1 s

/-- READ COEF_B2 (R116). -/
def execRdCoefB2 (s : State) : Host.Outcome State Fault Refusal :=
  answer s.coef.b2 s

/-- READ COEF_A1 (R117). -/
def execRdCoefA1 (s : State) : Host.Outcome State Fault Refusal :=
  answer s.coef.a1 s

/-- READ COEF_A2 (R118). -/
def execRdCoefA2 (s : State) : Host.Outcome State Fault Refusal :=
  answer s.coef.a2 s

/-- READ HIST_X1: sign-extended (R119, R45). -/
def execRdHistX1 (s : State) : Host.Outcome State Fault Refusal :=
  answer (sext32 s.hist.x1) s

/-- READ HIST_X2: sign-extended (R120, R45). -/
def execRdHistX2 (s : State) : Host.Outcome State Fault Refusal :=
  answer (sext32 s.hist.x2) s

/-- READ HIST_Y1: sign-extended (R121, R45). -/
def execRdHistY1 (s : State) : Host.Outcome State Fault Refusal :=
  answer (sext32 s.hist.y1) s

/-- READ HIST_Y2: sign-extended (R122, R45). -/
def execRdHistY2 (s : State) : Host.Outcome State Fault Refusal :=
  answer (sext32 s.hist.y2) s

/-- READ.BAD (R71). -/
def execRdBad (s : State) : Host.Outcome State Fault Refusal := badRead s

end Sys2Proof.Machine
end

