-- ==== Sys2Proof/Machine/BusWrite.lean ====
section
/-! DEFINITION. WRITE of every writable control register but CMD (spec/40_bus_access.md R71 to R100). -/

namespace Sys2Proof.Machine

/-- WRITE FLAGS: W1C of DATA[3:0]; DATA[31:4] ignored; sets no flag (R76). -/
def execWrFlags (data : Word) (s : State) : Host.Outcome State Fault Refusal :=
  .next (clearFlags data s)

/-- WRITE IRQ_EN: `irq_en <- DATA[0]`; DATA[31:1] ignored (R78). -/
def execWrIrqEn (data : Word) (s : State) : Host.Outcome State Fault Refusal :=
  .next (s.setIrqEn (data.getLsbD 0))

/-- WRITE IRQ_PEND: W1C of DATA[0]; a write cannot set the bit (R80). -/
def execWrIrqPend (data : Word) (s : State) : Host.Outcome State Fault Refusal :=
  .next (clearPend data s)

/-- WRITE OSC_CTRL (R82). -/
def execWrOscCtrl (data : Word) (s : State) : Host.Outcome State Fault Refusal :=
  .next (s.setOscCtl (oscCtrlOf data))

/-- WRITE FILT_CTRL: `mode <- DATA[1:0]`; the history is not cleared (R84). -/
def execWrFiltCtrl (data : Word) (s : State) : Host.Outcome State Fault Refusal :=
  .next (s.setMode (.ofCode (data.extractLsb' 0 2)))

/-- WRITE LFO_CTRL: `lfo_shape <- DATA[1:0]`; the LFO phase is not reset (R86). -/
def execWrLfoCtrl (data : Word) (s : State) : Host.Outcome State Fault Refusal :=
  .next (s.setLfo { s.lfo with shape := .ofCode (data.extractLsb' 0 2) })

/-- WRITE A4_FTW: DATA unsigned, clamped to [1, 2^31 - 1] (R88). -/
def execWrA4Ftw (data : Word) (s : State) : Host.Outcome State Fault Refusal :=
  warl data.toNat 1 (2 ^ 31 - 1) (fun v s => s.setTuning { s.tuning with a4Ftw := v }) s

/-- WRITE FTW_MIN: DATA unsigned, clamped to [1, 2^31 - 1] (R90). -/
def execWrFtwMin (data : Word) (s : State) : Host.Outcome State Fault Refusal :=
  warl data.toNat 1 (2 ^ 31 - 1) (fun v s => s.setTuning { s.tuning with ftwMin := v }) s

/-- WRITE ENV_ATTACK: DATA unsigned, clamped to [1, 2^23] (R92). -/
def execWrEnvAttack (data : Word) (s : State) : Host.Outcome State Fault Refusal :=
  warl data.toNat 1 (2 ^ 23) (fun v s => s.setEnvCtl { s.envCtl with att := v.setWidth 24 }) s

/-- WRITE ENV_DECAY: DATA unsigned, clamped to [1, 2^23] (R94). -/
def execWrEnvDecay (data : Word) (s : State) : Host.Outcome State Fault Refusal :=
  warl data.toNat 1 (2 ^ 23) (fun v s => s.setEnvCtl { s.envCtl with dec := v.setWidth 24 }) s

/-- WRITE ENV_SUSTAIN: DATA unsigned, clamped to [0, 2^23] (R96). -/
def execWrEnvSustain (data : Word) (s : State) : Host.Outcome State Fault Refusal :=
  warl data.toNat 0 (2 ^ 23) (fun v s => s.setEnvCtl { s.envCtl with sus := v.setWidth 24 }) s

/-- WRITE ENV_RELEASE: DATA unsigned, clamped to [1, 2^23] (R98). -/
def execWrEnvRelease (data : Word) (s : State) : Host.Outcome State Fault Refusal :=
  warl data.toNat 1 (2 ^ 23) (fun v s => s.setEnvCtl { s.envCtl with rel := v.setWidth 24 }) s

/-- WRITE ENV_FLOOR: DATA unsigned, clamped to [0, 2^23] (R100). -/
def execWrEnvFloor (data : Word) (s : State) : Host.Outcome State Fault Refusal :=
  warl data.toNat 0 (2 ^ 23) (fun v s => s.setEnvCtl { s.envCtl with floor := v.setWidth 24 }) s

/-- WRITE.BAD (R71). -/
def execWrBad (s : State) : Host.Outcome State Fault Refusal := badWrite s

end Sys2Proof.Machine
end

