-- ==== Sys2Proof/Machine/Command.lean ====
section
/-! DEFINITION. The commands: a WRITE of CMD (spec/42_commands.md R133 to R137). -/

namespace Sys2Proof.Machine

/-- `x1 <- 0; x2 <- 0; y1 <- 0; y2 <- 0` (R134, R136). -/
def Hist.cleared : Hist := { x1 := 0#24, x2 := 0#24, y1 := 0#24, y2 := 0#24 }

/-- `phase_a <- 0; phase_b <- 0` (R134, R136). -/
def Phases.zero : Phases := { a := 0#32, b := 0#32 }

/-- NOP: nothing (R133). -/
def execNop (s : State) : Host.Outcome State Fault Refusal := .next s

/-- NOTE_ON, from any stage (R134): the note and velocity are stored, the envelope restarts from level 0, START takes
`scount`, the phases go to 0 unless FREE_RUN, and the filter history is cleared.  Nothing else changes. -/
def execNoteOn (note vel : BitVec 7) (s : State) : Host.Outcome State Fault Refusal :=
  .next
    (((((s.setVoice { stage := .attack, note := note, vel := vel }).setEnv { level := 0#25, elapsed := 0#32 }).setCounters
      { s.counters with start := s.counters.scount }).setOsc (if s.oscCtl.freeRun then s.osc else .zero)).setHist .cleared)

/-- NOTE_OFF acts only when the stage is ATTACK, DECAY or SUSTAIN and its NOTE is the stored one (R135). -/
def releases (note : BitVec 7) (v : Voice) : Bool :=
  (v.stage == .attack || v.stage == .decay || v.stage == .sustain) && note == v.note

/-- NOTE_OFF: RELEASE from the level reached, `elapsed <- 0`; otherwise nothing changes (R135). -/
def execNoteOff (note : BitVec 7) (s : State) : Host.Outcome State Fault Refusal :=
  .next (if releases note s.voice then
    (s.setVoice { s.voice with stage := .release }).setEnv { s.env with elapsed := 0#32 } else s)

/-- VOICE_RESET: IDLE at once, phases and history cleared whatever FREE_RUN says; the idle interrupt is not set (R136). -/
def execVoiceReset (s : State) : Host.Outcome State Fault Refusal :=
  .next ((((s.setVoice { s.voice with stage := .idle }).setEnv { level := 0#25, elapsed := 0#32 }).setOsc .zero).setHist
    .cleared)

/-- A reserved command, OP in 0x04-0x07 (R137). -/
def execCmdReserved04To07 (s : State) : Host.Outcome State Fault Refusal := badCommand s

/-- A reserved command, OP in 0x08-0x0F (R137). -/
def execCmdReserved08To0F (s : State) : Host.Outcome State Fault Refusal := badCommand s

/-- A reserved command, OP in 0x10-0x1F (R137). -/
def execCmdReserved10To1F (s : State) : Host.Outcome State Fault Refusal := badCommand s

/-- A reserved command, OP in 0x20-0x3F (R137). -/
def execCmdReserved20To3F (s : State) : Host.Outcome State Fault Refusal := badCommand s

/-- A reserved command, OP in 0x40-0x7F (R137). -/
def execCmdReserved40To7F (s : State) : Host.Outcome State Fault Refusal := badCommand s

/-- A reserved command, OP in 0x80-0xFF (R137). -/
def execCmdReserved80ToFF (s : State) : Host.Outcome State Fault Refusal := badCommand s

end Sys2Proof.Machine
end

