-- ==== Sys2Proof/Machine/Params.lean ====
section
/-! DEFINITION. The five operations of each of the ten parameter slots (spec/41_parameters.md R125 to R129): one
definition an instruction, over one shared operation a rule. -/

namespace Sys2Proof.Machine

/-- READ TARGET[i]: `rdata <- u32(tgt[i])`, the stored target, never the smoothed value (R126). -/
def readTarget (i : Slot) (s : State) : Host.Outcome State Fault Refusal := answer (s.slots.get i).tgt s

/-- WRITE TARGET[i] (R125): DATA read as the slot's row says, clamped to the row's range, CLAMP set when clamped;
`cur[i]` is not changed. -/
def writeTarget (i : Slot) (data : Word) (s : State) : Host.Outcome State Fault Refusal :=
  warl (slotValue i data) (slotRow i).lo (slotRow i).hi
    (fun v s => s.setSlots (s.slots.set i { s.slots.get i with tgt := v })) s

/-- READ CURRENT[i]: `rdata <- u32(cur[i])` (R127). -/
def readCurrent (i : Slot) (s : State) : Host.Outcome State Fault Refusal := answer (s.slots.get i).cur s

/-- READ SMCFG[i]: `rdata <- {MAXSTEP[23:0], 0b000, SHIFT[4:0]}` (R129). -/
def readSmcfg (i : Slot) (s : State) : Host.Outcome State Fault Refusal :=
  answer ((s.slots.get i).maxstep ++ 0#3 ++ (s.slots.get i).shift) s

/-- WRITE SMCFG[i]: `SHIFT <- DATA[4:0]; MAXSTEP <- DATA[31:8]`; every value is legal (R128). -/
def writeSmcfg (i : Slot) (data : Word) (s : State) : Host.Outcome State Fault Refusal :=
  .next (s.setSlots (s.slots.set i
    { s.slots.get i with shift := data.extractLsb' 0 5, maxstep := data.extractLsb' 8 24 }))

/-- READ TARGET.BEND (R126). -/
def execRdTargetBend (s : State) : Host.Outcome State Fault Refusal := readTarget .bend s
/-- READ TARGET.DETUNE (R126). -/
def execRdTargetDetune (s : State) : Host.Outcome State Fault Refusal := readTarget .detune s
/-- READ TARGET.MIX (R126). -/
def execRdTargetMix (s : State) : Host.Outcome State Fault Refusal := readTarget .mix s
/-- READ TARGET.CUTOFF (R126). -/
def execRdTargetCutoff (s : State) : Host.Outcome State Fault Refusal := readTarget .cutoff s
/-- READ TARGET.RES (R126). -/
def execRdTargetRes (s : State) : Host.Outcome State Fault Refusal := readTarget .res s
/-- READ TARGET.GAIN (R126). -/
def execRdTargetGain (s : State) : Host.Outcome State Fault Refusal := readTarget .gain s
/-- READ TARGET.LFO_RATE (R126). -/
def execRdTargetLfoRate (s : State) : Host.Outcome State Fault Refusal := readTarget .lfoRate s
/-- READ TARGET.DEPTH_PITCH (R126). -/
def execRdTargetDepthPitch (s : State) : Host.Outcome State Fault Refusal := readTarget .depthPitch s
/-- READ TARGET.DEPTH_CUT (R126). -/
def execRdTargetDepthCut (s : State) : Host.Outcome State Fault Refusal := readTarget .depthCut s
/-- READ TARGET.DEPTH_AMP (R126). -/
def execRdTargetDepthAmp (s : State) : Host.Outcome State Fault Refusal := readTarget .depthAmp s

/-- WRITE TARGET.BEND (R125). -/
def execWrTargetBend (data : Word) (s : State) : Host.Outcome State Fault Refusal := writeTarget .bend data s
/-- WRITE TARGET.DETUNE (R125). -/
def execWrTargetDetune (data : Word) (s : State) : Host.Outcome State Fault Refusal := writeTarget .detune data s
/-- WRITE TARGET.MIX (R125). -/
def execWrTargetMix (data : Word) (s : State) : Host.Outcome State Fault Refusal := writeTarget .mix data s
/-- WRITE TARGET.CUTOFF (R125). -/
def execWrTargetCutoff (data : Word) (s : State) : Host.Outcome State Fault Refusal := writeTarget .cutoff data s
/-- WRITE TARGET.RES (R125). -/
def execWrTargetRes (data : Word) (s : State) : Host.Outcome State Fault Refusal := writeTarget .res data s
/-- WRITE TARGET.GAIN (R125). -/
def execWrTargetGain (data : Word) (s : State) : Host.Outcome State Fault Refusal := writeTarget .gain data s
/-- WRITE TARGET.LFO_RATE (R125). -/
def execWrTargetLfoRate (data : Word) (s : State) : Host.Outcome State Fault Refusal := writeTarget .lfoRate data s
/-- WRITE TARGET.DEPTH_PITCH (R125). -/
def execWrTargetDepthPitch (data : Word) (s : State) : Host.Outcome State Fault Refusal := writeTarget .depthPitch data s
/-- WRITE TARGET.DEPTH_CUT (R125). -/
def execWrTargetDepthCut (data : Word) (s : State) : Host.Outcome State Fault Refusal := writeTarget .depthCut data s
/-- WRITE TARGET.DEPTH_AMP (R125). -/
def execWrTargetDepthAmp (data : Word) (s : State) : Host.Outcome State Fault Refusal := writeTarget .depthAmp data s

/-- READ CURRENT.BEND (R127). -/
def execRdCurrentBend (s : State) : Host.Outcome State Fault Refusal := readCurrent .bend s
/-- READ CURRENT.DETUNE (R127). -/
def execRdCurrentDetune (s : State) : Host.Outcome State Fault Refusal := readCurrent .detune s
/-- READ CURRENT.MIX (R127). -/
def execRdCurrentMix (s : State) : Host.Outcome State Fault Refusal := readCurrent .mix s
/-- READ CURRENT.CUTOFF (R127). -/
def execRdCurrentCutoff (s : State) : Host.Outcome State Fault Refusal := readCurrent .cutoff s
/-- READ CURRENT.RES (R127). -/
def execRdCurrentRes (s : State) : Host.Outcome State Fault Refusal := readCurrent .res s
/-- READ CURRENT.GAIN (R127). -/
def execRdCurrentGain (s : State) : Host.Outcome State Fault Refusal := readCurrent .gain s
/-- READ CURRENT.LFO_RATE (R127). -/
def execRdCurrentLfoRate (s : State) : Host.Outcome State Fault Refusal := readCurrent .lfoRate s
/-- READ CURRENT.DEPTH_PITCH (R127). -/
def execRdCurrentDepthPitch (s : State) : Host.Outcome State Fault Refusal := readCurrent .depthPitch s
/-- READ CURRENT.DEPTH_CUT (R127). -/
def execRdCurrentDepthCut (s : State) : Host.Outcome State Fault Refusal := readCurrent .depthCut s
/-- READ CURRENT.DEPTH_AMP (R127). -/
def execRdCurrentDepthAmp (s : State) : Host.Outcome State Fault Refusal := readCurrent .depthAmp s

/-- READ SMCFG.BEND (R129). -/
def execRdSmcfgBend (s : State) : Host.Outcome State Fault Refusal := readSmcfg .bend s
/-- READ SMCFG.DETUNE (R129). -/
def execRdSmcfgDetune (s : State) : Host.Outcome State Fault Refusal := readSmcfg .detune s
/-- READ SMCFG.MIX (R129). -/
def execRdSmcfgMix (s : State) : Host.Outcome State Fault Refusal := readSmcfg .mix s
/-- READ SMCFG.CUTOFF (R129). -/
def execRdSmcfgCutoff (s : State) : Host.Outcome State Fault Refusal := readSmcfg .cutoff s
/-- READ SMCFG.RES (R129). -/
def execRdSmcfgRes (s : State) : Host.Outcome State Fault Refusal := readSmcfg .res s
/-- READ SMCFG.GAIN (R129). -/
def execRdSmcfgGain (s : State) : Host.Outcome State Fault Refusal := readSmcfg .gain s
/-- READ SMCFG.LFO_RATE (R129). -/
def execRdSmcfgLfoRate (s : State) : Host.Outcome State Fault Refusal := readSmcfg .lfoRate s
/-- READ SMCFG.DEPTH_PITCH (R129). -/
def execRdSmcfgDepthPitch (s : State) : Host.Outcome State Fault Refusal := readSmcfg .depthPitch s
/-- READ SMCFG.DEPTH_CUT (R129). -/
def execRdSmcfgDepthCut (s : State) : Host.Outcome State Fault Refusal := readSmcfg .depthCut s
/-- READ SMCFG.DEPTH_AMP (R129). -/
def execRdSmcfgDepthAmp (s : State) : Host.Outcome State Fault Refusal := readSmcfg .depthAmp s

/-- WRITE SMCFG.BEND (R128). -/
def execWrSmcfgBend (data : Word) (s : State) : Host.Outcome State Fault Refusal := writeSmcfg .bend data s
/-- WRITE SMCFG.DETUNE (R128). -/
def execWrSmcfgDetune (data : Word) (s : State) : Host.Outcome State Fault Refusal := writeSmcfg .detune data s
/-- WRITE SMCFG.MIX (R128). -/
def execWrSmcfgMix (data : Word) (s : State) : Host.Outcome State Fault Refusal := writeSmcfg .mix data s
/-- WRITE SMCFG.CUTOFF (R128). -/
def execWrSmcfgCutoff (data : Word) (s : State) : Host.Outcome State Fault Refusal := writeSmcfg .cutoff data s
/-- WRITE SMCFG.RES (R128). -/
def execWrSmcfgRes (data : Word) (s : State) : Host.Outcome State Fault Refusal := writeSmcfg .res data s
/-- WRITE SMCFG.GAIN (R128). -/
def execWrSmcfgGain (data : Word) (s : State) : Host.Outcome State Fault Refusal := writeSmcfg .gain data s
/-- WRITE SMCFG.LFO_RATE (R128). -/
def execWrSmcfgLfoRate (data : Word) (s : State) : Host.Outcome State Fault Refusal := writeSmcfg .lfoRate data s
/-- WRITE SMCFG.DEPTH_PITCH (R128). -/
def execWrSmcfgDepthPitch (data : Word) (s : State) : Host.Outcome State Fault Refusal := writeSmcfg .depthPitch data s
/-- WRITE SMCFG.DEPTH_CUT (R128). -/
def execWrSmcfgDepthCut (data : Word) (s : State) : Host.Outcome State Fault Refusal := writeSmcfg .depthCut data s
/-- WRITE SMCFG.DEPTH_AMP (R128). -/
def execWrSmcfgDepthAmp (data : Word) (s : State) : Host.Outcome State Fault Refusal := writeSmcfg .depthAmp data s

end Sys2Proof.Machine
end

