-- ==== Sys2Proof/Machine/Envelope.lean ====
section
/-! DEFINITION. The envelope step and the amplitude path (spec/47_envelope.md R171 to R177). -/

namespace Sys2Proof.Machine

/-- What one envelope step leaves, and whether it ended a release. -/
structure EnvStep where
  stage : Stage
  level : Int
  elapsed : Int
  ended : Bool
  deriving DecidableEq, Repr

/-- `inc(elapsed)`: `elapsed <- min(elapsed + 1, 2^32 - 1)` (R171). -/
def incElapsed (elapsed : Int) : Int := min (elapsed + 1) (2 ^ 32 - 1)

/-- ATTACK (R173). -/
def attackStep (c : EnvCtrl) (level elapsed : Int) : EnvStep :=
  if level + c.att.toNat ≥ 2 ^ 23 then ⟨.decay, 2 ^ 23, 0, false⟩
  else ⟨.attack, level + c.att.toNat, incElapsed elapsed, false⟩

/-- DECAY (R174). -/
def decayStep (c : EnvCtrl) (level elapsed : Int) : EnvStep :=
  if level - c.dec.toNat ≤ c.sus.toNat then ⟨.sustain, c.sus.toNat, 0, false⟩
  else ⟨.decay, level - c.dec.toNat, incElapsed elapsed, false⟩

/-- SUSTAIN: the level follows ENV_SUSTAIN at every TICK (R175). -/
def sustainStep (c : EnvCtrl) (elapsed : Int) : EnvStep := ⟨.sustain, c.sus.toNat, incElapsed elapsed, false⟩

/-- RELEASE: ends when the level is at or below `rel` or `floor` (R176). -/
def releaseStep (c : EnvCtrl) (level elapsed : Int) : EnvStep :=
  if level ≤ c.rel.toNat ∨ level ≤ c.floor.toNat then ⟨.idle, 0, 0, true⟩
  else ⟨.release, level - c.rel.toNat, incElapsed elapsed, false⟩

/-- The envelope step of the stage; IDLE takes no step (R171, R172). -/
def envStep (c : EnvCtrl) (stage : Stage) (level elapsed : Int) : EnvStep :=
  match stage with
  | .idle => ⟨.idle, level, elapsed, false⟩
  | .attack => attackStep c level elapsed
  | .decay => decayStep c level elapsed
  | .sustain => sustainStep c elapsed
  | .release => releaseStep c level elapsed

/-- The envelope step on the state: `stage`, `level`, `elapsed`, and IRQ_PEND.IDLE when a release ends (R171, R176). -/
def envelopeStep (s : State) : State :=
  let e := envStep s.envCtl s.voice.stage s.env.level.toNat s.env.elapsed.toNat
  pendIdleIf e.ended
    ((s.setVoice { s.voice with stage := e.stage }).setEnv
      { level := BitVec.ofInt 25 e.level, elapsed := BitVec.ofInt 32 e.elapsed })

/-- The output sample from the filter output y, the envelope level L before its step, the effective gain g and the
velocity (R177). -/
def amp (y level g : Int) (vel : Nat) : Int :=
  fdiv (fdiv (fdiv (y * level) (2 ^ 23) * g) (2 ^ 23) * (vel + 1)) 128

end Sys2Proof.Machine
end

