-- ==== Sys2Proof/Machine/Rom.lean ====
section
/-! DEFINITION. The two constant ROMs: SINE_ROM (spec/44_oscillator.md R144, R145) and EXP_ROM (R148).  They are
constants, not state (spec/10_state.md R16), and no address reaches them (spec/20_memory.md R46). -/

namespace Sys2Proof.Machine

/-- The table of R145, eight entries a row: SINE_ROM[8j .. 8j+7] is row j. -/
def sineRows : List (List Int) :=
  ([
    [0, 51472, 102941, 154407, 205867, 257319, 308761, 360192],
    [411609, 463011, 514396, 565761, 617104, 668425, 719720, 770988],
    [822227, 873436, 924611, 975751, 1026855, 1077920, 1128945, 1179927],
    [1230864, 1281756, 1332599, 1383392, 1434132, 1484819, 1535450, 1586023],
    [1636536, 1686988, 1737376, 1787699, 1837954, 1888141, 1938256, 1988298],
    [2038265, 2088156, 2137968, 2187700, 2237349, 2286914, 2336392, 2385783],
    [2435084, 2484294, 2533410, 2582430, 2631353, 2680177, 2728901, 2777521],
    [2826037, 2874446, 2922748, 2970939, 3019018, 3066984, 3114834, 3162567],
    [3210181, 3257674, 3305045, 3352291, 3399411, 3446402, 3493264, 3539995],
    [3586592, 3633054, 3679380, 3725567, 3771613, 3817518, 3863279, 3908894],
    [3954362, 3999682, 4044851, 4089867, 4134730, 4179437, 4223986, 4268377]
  ] ++ [
    [4312606, 4356674, 4400577, 4444315, 4487885, 4531287, 4574518, 4617576],
    [4660461, 4703170, 4745702, 4788056, 4830229, 4872221, 4914029, 4955652],
    [4997088, 5038336, 5079395, 5120262, 5160937, 5201417, 5241701, 5281788],
    [5321677, 5361364, 5400850, 5440133, 5479211, 5518082, 5556746, 5595201],
    [5633445, 5671477, 5709295, 5746898, 5784285, 5821455, 5858405, 5895134],
    [5931642, 5967926, 6003985, 6039819, 6075425, 6110802, 6145949, 6180865],
    [6215549, 6249998, 6284212, 6318189, 6351928, 6385428, 6418688, 6451706],
    [6484482, 6517013, 6549299, 6581338, 6613129, 6644672, 6675964, 6707005],
    [6737793, 6768328, 6798608, 6828632, 6858399, 6887907, 6917156, 6946145],
    [6974873, 7003337, 7031538, 7059475, 7087145, 7114549, 7141685, 7168552],
    [7195149, 7221475, 7247530, 7273311, 7298819, 7324052, 7349009, 7373689]
  ] ++ [
    [7398092, 7422216, 7446061, 7469625, 7492909, 7515910, 7538628, 7561062],
    [7583212, 7605076, 7626654, 7647945, 7668947, 7689661, 7710086, 7730220],
    [7750063, 7769615, 7788874, 7807839, 7826511, 7844888, 7862970, 7880755],
    [7898244, 7915436, 7932329, 7948924, 7965220, 7981215, 7996911, 8012305],
    [8027397, 8042188, 8056675, 8070859, 8084740, 8098316, 8111587, 8124552],
    [8137212, 8149565, 8161612, 8173351, 8184783, 8195906, 8206721, 8217227],
    [8227423, 8237310, 8246887, 8256153, 8265108, 8273752, 8282085, 8290105],
    [8297814, 8305210, 8312294, 8319064, 8325522, 8331666, 8337496, 8343012],
    [8348215, 8353102, 8357676, 8361935, 8365879, 8369508, 8372822, 8375820],
    [8378504, 8380871, 8382924, 8384660, 8386082, 8387187, 8387976, 8388450],
    [8388608]
  ])

/-- SINE_ROM[k] for k = 0..256, as R145 lists it. -/
def sineQuarter (k : Nat) : Int := (sineRows.getD (k / 8) []).getD (k % 8) 0

/-- The half wave k = 0..512: SINE_ROM[512 - k] = SINE_ROM[k], the mirror about the peak (R144). -/
def sineHalf (k : Nat) : Int := if k ≤ 256 then sineQuarter k else sineQuarter (512 - k)

/-- SINE_ROM[k] for k = 0..1023: SINE_ROM[512 + k] = -SINE_ROM[k], the odd half wave (R144). -/
def sineRom (k : Nat) : Int := if k < 512 then sineHalf k else -sineHalf (k - 512)

/-- The first half of R148's characterisation of an entry: `(2v - 1)^12288 < 2^(12288 * 31 + r)`. -/
def belowExp (r v : Nat) : Bool := (2 * v - 1) ^ 12288 < 2 ^ (12288 * 31 + r)

/-- The largest number of `[v, v + 2^b)` that meets `p`, one bit at a time from the top, for a `p` that holds of `v` and
of everything below a number it holds of. -/
def bitSearch (p : Nat → Bool) : Nat → Nat → Nat
  | 0, v => v
  | b + 1, v => bitSearch p b (if p (v + 2 ^ b) then v + 2 ^ b else v)

/-- EXP_ROM[r] for r = 0..12287 (R148): `EXP_ROM[0] = 2^30`, and for r >= 1 the unique integer v with
`(2v - 1)^12288 < 2^(12288 * 31 + r) < (2v + 1)^12288`, found as the largest v of `[2^30, 2^31)` that meets the first
half.  The exact characterisation is R148's own, "usable by a model without real numbers". -/
def expRom (r : Nat) : Nat := bitSearch (belowExp r) 30 (2 ^ 30)

end Sys2Proof.Machine
end

