-- ==== Sys2Proof/Machine/Oscillator.lean ====
section
/-! DEFINITION. The oscillators (spec/44_oscillator.md): interpolated sine, naive triangle, pitch to increment, the
band-limiting residuals, the four waveforms and the mix.  Every function is exact over the integers. -/

namespace Sys2Proof.Machine

/-- The interpolated sine `S(p)` of a phase p in [0, 2^32) (R146). -/
def sine (p : Int) : Int :=
  let i := (asr p 22).toNat
  let f := p % 2 ^ 22
  let t0 := sineRom i
  let t1 := sineRom ((i + 1) % 1024)
  t0 + fdiv ((t1 - t0) * f) (2 ^ 22)

/-- The naive triangle `tri_n(p)` of a phase p in [0, 2^32) (R147). -/
def triN (p : Int) : Int :=
  let q := asr p 7
  if q < 2 ^ 23 then q else if q < 3 * 2 ^ 23 then 2 ^ 24 - q else q - 2 ^ 25

/-- One route of the LFO: `fdiv(lv * depth, 2^23)` (spec/46_lfo.md R170). -/
def route (lv depth : Int) : Int := fdiv (lv * depth) (2 ^ 23)

/-- The pitch P_A of oscillator A in 1/1024 semitones, P = 0 at note 69 (R149). -/
def pitchA (note : Nat) (bend depthPitch lv : Int) : Int := ((note : Int) - 69) * 1024 + bend + route lv depthPitch

/-- `P_B <- P_A + cur[DETUNE]` (R149). -/
def pitchB (pA detune : Int) : Int := pA + detune

/-- The unclamped increment of a pitch already clamped to P_LIM either way: the octave k as a shift of
`a4_ftw * EXP_ROM[r]` (R150). -/
def p2fRaw (a4 p : Int) : Int :=
  let k := fdiv p 12288
  let r := p - 12288 * k
  let prod := a4 * expRom r.toNat
  if 0 ≤ k then asr (shl prod k.toNat) 30 else asr prod (30 - k).toNat

/-- Pitch to phase increment, `p2f(P)` (R150). -/
def p2f (a4 ftwMin p : Int) : Int :=
  clamp (p2fRaw a4 (clamp p (-Config.pLim) Config.pLim)) ftwMin Config.ftwMax

/-- `x = fdiv(d << 16, dt)`, the distance d from a discontinuity in units of the increment, 2^16 for one (R153, R154). -/
def nearness (d dt : Int) : Int := fdiv (shl d 16) dt

/-- The band-limited step residual, phase t from a discontinuity, increment dt (R153). -/
def blep (t dt : Int) : Int :=
  if t < dt then -asr ((2 ^ 16 - nearness t dt) ^ 2) 9
  else if 2 ^ 32 - t < dt then asr ((2 ^ 16 - nearness (2 ^ 32 - t) dt) ^ 2) 9
  else 0

/-- The ramp residual at nearness x of a corner: `fdiv(dt * y^3, 3 * 2^55)`, `y = 2^16 - x` (R154). -/
def blampAt (x dt : Int) : Int := fdiv (dt * (2 ^ 16 - x) ^ 3) (3 * 2 ^ 55)

/-- The band-limited ramp residual, the same on both sides of the corner (R154). -/
def blamp (t dt : Int) : Int :=
  if t < dt then blampAt (nearness t dt) dt
  else if 2 ^ 32 - t < dt then blampAt (nearness (2 ^ 32 - t) dt) dt
  else 0

/-- The waveform before saturation (R155). -/
def oscRaw (w : Waveform) (t dt : Int) : Int :=
  match w with
  | .sine => sine t
  | .saw => (asr t 8 - 2 ^ 23) - blep t dt
  | .square => (if t < 2 ^ 31 then 2 ^ 23 else -2 ^ 23) + blep t dt - blep (wrap32 (t + 2 ^ 31)) dt
  | .triangle => triN t - blamp (wrap32 (t - 2 ^ 30)) dt + blamp (wrap32 (t - 3 * 2 ^ 30)) dt

/-- The output of one oscillator, `osc(w, t, dt) = sat24(r)` (R155). -/
def osc (w : Waveform) (t dt : Int) : Int := sat24 (oscRaw w t dt)

/-- The mix of the two oscillators by `cur[MIX]` (R157). -/
def mix (sA sB mx : Int) : Int := sat24 (fdiv (sA * (2 ^ 23 - mx) + sB * mx) (2 ^ 23))

end Sys2Proof.Machine
end

