-- ==== Sys2Proof/Machine/Filter.lean ====
section
/-! DEFINITION. The filter stage (spec/45_filter.md): effective cutoff, the RBJ coefficients, the difference equation. -/

namespace Sys2Proof.Machine

/-- The effective cutoff word (R158). -/
def cutoffEff (cut depth lv : Int) : Int := clamp (cut + route lv depth) Config.cutMin Config.cutMax

/-- The five coefficients as integers, Q3.29. -/
structure CoefValues where
  b0 : Int
  b1 : Int
  b2 : Int
  a1 : Int
  a2 : Int
  deriving DecidableEq, Repr

/-- `sn <- S(c)`, sin(w0) (R161). -/
def coefSn (c : Int) : Int := sine c

/-- `cs <- S(wrap32(c + 2^30))`, cos(w0) (R161). -/
def coefCs (c : Int) : Int := sine (wrap32 (c + 2 ^ 30))

/-- `alpha <- fdiv(sn << 11, q)` (R161). -/
def coefAlpha (c q : Int) : Int := fdiv (shl (coefSn c) 11) q

/-- `a0 <- 2^23 + alpha` (R161). -/
def coefA0 (c q : Int) : Int := 2 ^ 23 + coefAlpha c q

/-- `a1 <- fdiv(-cs * 2^30, a0)` (R161). -/
def coefA1 (c q : Int) : Int := fdiv (-coefCs c * 2 ^ 30) (coefA0 c q)

/-- `a2 <- fdiv((2^23 - alpha) << 29, a0)` (R161). -/
def coefA2 (c q : Int) : Int := fdiv (shl (2 ^ 23 - coefAlpha c q) 29) (coefA0 c q)

/-- LOWPASS: `b0 <- fdiv((2^23 - cs) << 28, a0)` (R162). -/
def lowpassB0 (c q : Int) : Int := fdiv (shl (2 ^ 23 - coefCs c) 28) (coefA0 c q)

/-- HIGHPASS: `b0 <- fdiv((2^23 + cs) << 28, a0)` (R163). -/
def highpassB0 (c q : Int) : Int := fdiv (shl (2 ^ 23 + coefCs c) 28) (coefA0 c q)

/-- BANDPASS: `b0 <- fdiv(alpha << 29, a0)` (R164). -/
def bandpassB0 (c q : Int) : Int := fdiv (shl (coefAlpha c q) 29) (coefA0 c q)

/-- The coefficients from the mode, the effective cutoff c and q = cur[RES] (R160 to R165). -/
def coefValues (mode : FilterMode) (c q : Int) : CoefValues :=
  match mode with
  | .lowpass =>
    { b0 := lowpassB0 c q, b1 := 2 * lowpassB0 c q, b2 := lowpassB0 c q, a1 := coefA1 c q, a2 := coefA2 c q }
  | .highpass =>
    { b0 := highpassB0 c q, b1 := -2 * highpassB0 c q, b2 := highpassB0 c q, a1 := coefA1 c q, a2 := coefA2 c q }
  | .bandpass => { b0 := bandpassB0 c q, b1 := 0, b2 := -bandpassB0 c q, a1 := coefA1 c q, a2 := coefA2 c q }
  | .bypass => { b0 := 2 ^ 29, b1 := 0, b2 := 0, a1 := 0, a2 := 0 }

/-- The coefficients as the registers hold them, signed 32 bits (spec/10_state.md R45). -/
def CoefValues.store (k : CoefValues) : Coefs :=
  { b0 := u32 k.b0, b1 := u32 k.b1, b2 := u32 k.b2, a1 := u32 k.a1, a2 := u32 k.a2 }

/-- `acc <- b0*x0 + b1*x1 + b2*x2 - a1*y1 - a2*y2`, unbounded (R166). -/
def biquadAcc (k : Coefs) (h : Hist) (x0 : Int) : Int :=
  k.b0.toInt * x0 + k.b1.toInt * h.x1.toInt + k.b2.toInt * h.x2.toInt - k.a1.toInt * h.y1.toInt - k.a2.toInt * h.y2.toInt

/-- `yr <- (acc + 2^28) >> 29`, round half up to Q1.23 (R166). -/
def biquadRounded (k : Coefs) (h : Hist) (x0 : Int) : Int := asr (biquadAcc k h x0 + 2 ^ 28) 29

/-- `y <- sat24(yr)` (R166). -/
def biquadOut (k : Coefs) (h : Hist) (x0 : Int) : Int := sat24 (biquadRounded k h x0)

/-- FLAGS.SAT is set when `y != yr` (R166). -/
def biquadSat (k : Coefs) (h : Hist) (x0 : Int) : Bool := biquadOut k h x0 != biquadRounded k h x0

/-- `x2 <- x1; x1 <- x0; y2 <- y1; y1 <- y`: the saturated y is fed back (R166). -/
def biquadHist (k : Coefs) (h : Hist) (x0 : Int) : Hist :=
  { x1 := BitVec.ofInt 24 x0, x2 := h.x1, y1 := BitVec.ofInt 24 (biquadOut k h x0), y2 := h.y1 }

end Sys2Proof.Machine
end

