-- ==== Sys2Proof/Machine/Lfo.lean ====
section
/-! DEFINITION. The LFO shapes and the gain route (spec/46_lfo.md R168 to R170). -/

namespace Sys2Proof.Machine

/-- The LFO value of a phase p in [0, 2^32) for the shape of LFO_CTRL (R168); not band-limited, not saturated. -/
def lfoWave (shape : LfoShape) (p : Int) : Int :=
  match shape with
  | .sine => sine p
  | .triangle => triN p
  | .rampUp => asr p 8 - 2 ^ 23
  | .rampDown => 2 ^ 23 - asr p 8

/-- The effective gain: `clamp(cur[GAIN] + fdiv(lv * cur[DEPTH_AMP], 2^23), 0, 2^23)` (R170). -/
def gainEff (gain depthAmp lv : Int) : Int := clamp (gain + route lv depthAmp) 0 (2 ^ 23)

end Sys2Proof.Machine
end

