-- ==== Sys2Proof/Machine/Smoother.lean ====
section
/-! DEFINITION. The smoothing step of the parameter slots (spec/41_parameters.md R130). -/

namespace Sys2Proof.Machine

/-- The size m of one step over the distance d != 0: `max(1, |d| >> SHIFT)`, capped by MAXSTEP when that is not 0 (R130). -/
def smoothSize (d : Int) (shift maxstep : Nat) : Int :=
  let m := max 1 (asr (absv d) shift)
  if maxstep ≠ 0 then min m maxstep else m

/-- The value of CURRENT after one step toward `tgt` (R130). -/
def smoothStep (tgt cur : Int) (shift maxstep : Nat) : Int :=
  let d := tgt - cur
  if d ≠ 0 then cur + sgn d * smoothSize d shift maxstep else cur

/-- One step of slot i: only CURRENT[i] changes (R130). -/
def smoothSlot (i : Slot) (r : SlotRegs) : SlotRegs :=
  { r with cur := u32 (smoothStep (slotValue i r.tgt) (slotValue i r.cur) r.shift.toNat r.maxstep.toNat) }

/-- Step 1 of TICK: every slot, whether or not the voice is active (R130). -/
def smoothAll (f : SlotFile) : SlotFile where
  bend := smoothSlot .bend f.bend
  detune := smoothSlot .detune f.detune
  mix := smoothSlot .mix f.mix
  cutoff := smoothSlot .cutoff f.cutoff
  res := smoothSlot .res f.res
  gain := smoothSlot .gain f.gain
  lfoRate := smoothSlot .lfoRate f.lfoRate
  depthPitch := smoothSlot .depthPitch f.depthPitch
  depthCut := smoothSlot .depthCut f.depthCut
  depthAmp := smoothSlot .depthAmp f.depthAmp

end Sys2Proof.Machine
end

