-- ==== Sys2Proof/Machine/Tick.lean ====
section
/-! DEFINITION. TICK (spec/43_tick.md R138 to R143) and RESET (spec/70_reset_and_hazards.md R192). -/

namespace Sys2Proof.Machine

/-- Step 1: smooth every slot. -/
def tickSmooth (s : State) : State := s.setSlots (smoothAll s.slots)

/-- The LFO value of the phase before this TICK's advance, which every route uses (R140, spec/46_lfo.md R169). -/
def tickLv (s : State) : Int := lfoWave s.lfo.shape s.lfo.phase.toNat

/-- Step 2: `lfo_value <- lv; lfo_phase <- wrap32(lfo_phase + cur[LFO_RATE])`. -/
def tickLfo (lv : Int) (s : State) : State :=
  s.setLfo { s.lfo with value := BitVec.ofInt 25 lv, phase := u32 (wrap32 (s.lfo.phase.toNat + curOf .lfoRate s)) }

/-- Step 3: `ftw_a <- p2f(P_A); ftw_b <- p2f(P_B)`. -/
def tickPitch (lv : Int) (s : State) : State :=
  let pA := pitchA s.voice.note.toNat (curOf .bend s) (curOf .depthPitch s) lv
  let pB := pitchB pA (curOf .detune s)
  s.setFtw
    { a := u32 (p2f s.tuning.a4Ftw.toNat s.tuning.ftwMin.toNat pA)
      b := u32 (p2f s.tuning.a4Ftw.toNat s.tuning.ftwMin.toNat pB) }

/-- Step 4: the coefficients, from the mode, the effective cutoff and the resonance. -/
def tickCoef (lv : Int) (s : State) : State :=
  s.setCoef (coefValues s.mode (cutoffEff (curOf .cutoff s) (curOf .depthCut s) lv) (curOf .res s)).store

/-- Step 5: `g <- gain_eff(cur[GAIN], cur[DEPTH_AMP], lv)`. -/
def tickGain (lv : Int) (s : State) : Int := gainEff (curOf .gain s) (curOf .depthAmp s) lv

/-- Step 6, the mix m of the two oscillators, each at its phase before the advance. -/
def tickMix (s : State) : Int :=
  mix (osc s.oscCtl.waveA s.osc.a.toNat s.ftw.a.toNat) (osc s.oscCtl.waveB s.osc.b.toNat s.ftw.b.toNat) (curOf .mix s)

/-- Step 6, the phase advance: `wrap32(phase + ftw)` (spec/44_oscillator.md R152). -/
def tickPhases (s : State) : State :=
  s.setOsc { a := u32 (wrap32 (s.osc.a.toNat + s.ftw.a.toNat)), b := u32 (wrap32 (s.osc.b.toNat + s.ftw.b.toNat)) }

/-- Step 6, `y <- biquad(m)`: the history, and FLAGS.SAT (spec/45_filter.md R166). -/
def tickFilter (m : Int) (s : State) : State :=
  (setFlagIf (biquadSat s.coef s.hist m) .sat s).setHist (biquadHist s.coef s.hist m)

/-- Step 6, the sample `o <- amp(y, level, g, vel)` of an active TICK, from the level before the step (R177). -/
def tickSample (m g : Int) (s : State) : Int :=
  amp (biquadOut s.coef s.hist m) s.env.level.toNat g s.voice.vel.toNat

/-- Step 6 of an active TICK: the oscillators, the filter and the envelope advance. -/
def tickActive (m : Int) (s : State) : State := envelopeStep (tickFilter m (tickPhases s))

/-- Steps 6 and 7: gated while IDLE, where the output is exactly 0 (R139). -/
def tickVoice (g : Int) (s : State) : State :=
  if s.voice.stage = .idle then s.setOut 0#24
  else (tickActive (tickMix s) s).setOut (BitVec.ofInt 24 (tickSample (tickMix s) g s))

/-- Step 8: `scount <- (scount + 1) mod 2^64`. -/
def tickCount (s : State) : State := s.setCounters { s.counters with scount := s.counters.scount + 1#64 }

/-- Steps 1 to 4: what runs at every TICK before the voice (R139). -/
def tickFree (s : State) : State :=
  let s1 := tickSmooth s
  let lv := tickLv s1
  tickCoef lv (tickPitch lv (tickLfo lv s1))

/-- TICK, its eight steps in the order of R138. -/
def tick (s : State) : State :=
  let lv := tickLv (tickSmooth s)
  let s4 := tickFree s
  tickCount (tickVoice (tickGain lv s4) s4)

/-- TICK (R138). -/
def execTick (s : State) : Host.Outcome State Fault Refusal := .next (tick s)

/-- RESET: every state element takes the value of the table of R193 (R192).  The operations the agents have still to
perform are no element of the block's state (spec/20_memory.md R56), so they stay. -/
def execReset (s : State) : Host.Outcome State Fault Refusal := .next (State.reset.setOps s.ops)

end Sys2Proof.Machine
end

