-- ==== Sys2Proof/Machine/Dispatch.lean ====
section
/-! DEFINITION. The meaning of every operation, one arm for each constructor of `Instr`. -/

namespace Sys2Proof.Machine

def exec (i : Instr) (s : State) : Host.Outcome State Fault Refusal :=
  match i with
  | .rdId => Sys2Proof.Machine.execRdId s
  | .rdCmd => Sys2Proof.Machine.execRdCmd s
  | .rdStatus => Sys2Proof.Machine.execRdStatus s
  | .rdFlags => Sys2Proof.Machine.execRdFlags s
  | .wrFlags data => Sys2Proof.Machine.execWrFlags data s
  | .rdIrqEn => Sys2Proof.Machine.execRdIrqEn s
  | .wrIrqEn data => Sys2Proof.Machine.execWrIrqEn data s
  | .rdIrqPend => Sys2Proof.Machine.execRdIrqPend s
  | .wrIrqPend data => Sys2Proof.Machine.execWrIrqPend data s
  | .rdOscCtrl => Sys2Proof.Machine.execRdOscCtrl s
  | .wrOscCtrl data => Sys2Proof.Machine.execWrOscCtrl data s
  | .rdFiltCtrl => Sys2Proof.Machine.execRdFiltCtrl s
  | .wrFiltCtrl data => Sys2Proof.Machine.execWrFiltCtrl data s
  | .rdLfoCtrl => Sys2Proof.Machine.execRdLfoCtrl s
  | .wrLfoCtrl data => Sys2Proof.Machine.execWrLfoCtrl data s
  | .rdA4Ftw => Sys2Proof.Machine.execRdA4Ftw s
  | .wrA4Ftw data => Sys2Proof.Machine.execWrA4Ftw data s
  | .rdFtwMin => Sys2Proof.Machine.execRdFtwMin s
  | .wrFtwMin data => Sys2Proof.Machine.execWrFtwMin data s
  | .rdEnvAttack => Sys2Proof.Machine.execRdEnvAttack s
  | .wrEnvAttack data => Sys2Proof.Machine.execWrEnvAttack data s
  | .rdEnvDecay => Sys2Proof.Machine.execRdEnvDecay s
  | .wrEnvDecay data => Sys2Proof.Machine.execWrEnvDecay data s
  | .rdEnvSustain => Sys2Proof.Machine.execRdEnvSustain s
  | .wrEnvSustain data => Sys2Proof.Machine.execWrEnvSustain data s
  | .rdEnvRelease => Sys2Proof.Machine.execRdEnvRelease s
  | .wrEnvRelease data => Sys2Proof.Machine.execWrEnvRelease data s
  | .rdEnvFloor => Sys2Proof.Machine.execRdEnvFloor s
  | .wrEnvFloor data => Sys2Proof.Machine.execWrEnvFloor data s
  | .rdScountLo => Sys2Proof.Machine.execRdScountLo s
  | .rdScountHi => Sys2Proof.Machine.execRdScountHi s
  | .rdStartLo => Sys2Proof.Machine.execRdStartLo s
  | .rdStartHi => Sys2Proof.Machine.execRdStartHi s
  | .rdOut => Sys2Proof.Machine.execRdOut s
  | .rdEnvLevel => Sys2Proof.Machine.execRdEnvLevel s
  | .rdEnvElapsed => Sys2Proof.Machine.execRdEnvElapsed s
  | .rdPhaseA => Sys2Proof.Machine.execRdPhaseA s
  | .rdPhaseB => Sys2Proof.Machine.execRdPhaseB s
  | .rdLfoPhase => Sys2Proof.Machine.execRdLfoPhase s
  | .rdLfoValue => Sys2Proof.Machine.execRdLfoValue s
  | .rdFtwA => Sys2Proof.Machine.execRdFtwA s
  | .rdFtwB => Sys2Proof.Machine.execRdFtwB s
  | .rdCoefB0 => Sys2Proof.Machine.execRdCoefB0 s
  | .rdCoefB1 => Sys2Proof.Machine.execRdCoefB1 s
  | .rdCoefB2 => Sys2Proof.Machine.execRdCoefB2 s
  | .rdCoefA1 => Sys2Proof.Machine.execRdCoefA1 s
  | .rdCoefA2 => Sys2Proof.Machine.execRdCoefA2 s
  | .rdHistX1 => Sys2Proof.Machine.execRdHistX1 s
  | .rdHistX2 => Sys2Proof.Machine.execRdHistX2 s
  | .rdHistY1 => Sys2Proof.Machine.execRdHistY1 s
  | .rdHistY2 => Sys2Proof.Machine.execRdHistY2 s
  | .rdTargetBend => Sys2Proof.Machine.execRdTargetBend s
  | .wrTargetBend data => Sys2Proof.Machine.execWrTargetBend data s
  | .rdCurrentBend => Sys2Proof.Machine.execRdCurrentBend s
  | .rdSmcfgBend => Sys2Proof.Machine.execRdSmcfgBend s
  | .wrSmcfgBend data => Sys2Proof.Machine.execWrSmcfgBend data s
  | .rdTargetDetune => Sys2Proof.Machine.execRdTargetDetune s
  | .wrTargetDetune data => Sys2Proof.Machine.execWrTargetDetune data s
  | .rdCurrentDetune => Sys2Proof.Machine.execRdCurrentDetune s
  | .rdSmcfgDetune => Sys2Proof.Machine.execRdSmcfgDetune s
  | .wrSmcfgDetune data => Sys2Proof.Machine.execWrSmcfgDetune data s
  | .rdTargetMix => Sys2Proof.Machine.execRdTargetMix s
  | .wrTargetMix data => Sys2Proof.Machine.execWrTargetMix data s
  | .rdCurrentMix => Sys2Proof.Machine.execRdCurrentMix s
  | .rdSmcfgMix => Sys2Proof.Machine.execRdSmcfgMix s
  | .wrSmcfgMix data => Sys2Proof.Machine.execWrSmcfgMix data s
  | .rdTargetCutoff => Sys2Proof.Machine.execRdTargetCutoff s
  | .wrTargetCutoff data => Sys2Proof.Machine.execWrTargetCutoff data s
  | .rdCurrentCutoff => Sys2Proof.Machine.execRdCurrentCutoff s
  | .rdSmcfgCutoff => Sys2Proof.Machine.execRdSmcfgCutoff s
  | .wrSmcfgCutoff data => Sys2Proof.Machine.execWrSmcfgCutoff data s
  | .rdTargetRes => Sys2Proof.Machine.execRdTargetRes s
  | .wrTargetRes data => Sys2Proof.Machine.execWrTargetRes data s
  | .rdCurrentRes => Sys2Proof.Machine.execRdCurrentRes s
  | .rdSmcfgRes => Sys2Proof.Machine.execRdSmcfgRes s
  | .wrSmcfgRes data => Sys2Proof.Machine.execWrSmcfgRes data s
  | .rdTargetGain => Sys2Proof.Machine.execRdTargetGain s
  | .wrTargetGain data => Sys2Proof.Machine.execWrTargetGain data s
  | .rdCurrentGain => Sys2Proof.Machine.execRdCurrentGain s
  | .rdSmcfgGain => Sys2Proof.Machine.execRdSmcfgGain s
  | .wrSmcfgGain data => Sys2Proof.Machine.execWrSmcfgGain data s
  | .rdTargetLfoRate => Sys2Proof.Machine.execRdTargetLfoRate s
  | .wrTargetLfoRate data => Sys2Proof.Machine.execWrTargetLfoRate data s
  | .rdCurrentLfoRate => Sys2Proof.Machine.execRdCurrentLfoRate s
  | .rdSmcfgLfoRate => Sys2Proof.Machine.execRdSmcfgLfoRate s
  | .wrSmcfgLfoRate data => Sys2Proof.Machine.execWrSmcfgLfoRate data s
  | .rdTargetDepthPitch => Sys2Proof.Machine.execRdTargetDepthPitch s
  | .wrTargetDepthPitch data => Sys2Proof.Machine.execWrTargetDepthPitch data s
  | .rdCurrentDepthPitch => Sys2Proof.Machine.execRdCurrentDepthPitch s
  | .rdSmcfgDepthPitch => Sys2Proof.Machine.execRdSmcfgDepthPitch s
  | .wrSmcfgDepthPitch data => Sys2Proof.Machine.execWrSmcfgDepthPitch data s
  | .rdTargetDepthCut => Sys2Proof.Machine.execRdTargetDepthCut s
  | .wrTargetDepthCut data => Sys2Proof.Machine.execWrTargetDepthCut data s
  | .rdCurrentDepthCut => Sys2Proof.Machine.execRdCurrentDepthCut s
  | .rdSmcfgDepthCut => Sys2Proof.Machine.execRdSmcfgDepthCut s
  | .wrSmcfgDepthCut data => Sys2Proof.Machine.execWrSmcfgDepthCut data s
  | .rdTargetDepthAmp => Sys2Proof.Machine.execRdTargetDepthAmp s
  | .wrTargetDepthAmp data => Sys2Proof.Machine.execWrTargetDepthAmp data s
  | .rdCurrentDepthAmp => Sys2Proof.Machine.execRdCurrentDepthAmp s
  | .rdSmcfgDepthAmp => Sys2Proof.Machine.execRdSmcfgDepthAmp s
  | .wrSmcfgDepthAmp data => Sys2Proof.Machine.execWrSmcfgDepthAmp data s
  | .nop _ => Sys2Proof.Machine.execNop s
  | .noteOn _ note _ vel => Sys2Proof.Machine.execNoteOn note vel s
  | .noteOff _ note _ => Sys2Proof.Machine.execNoteOff note s
  | .voiceReset _ => Sys2Proof.Machine.execVoiceReset s
  | .cmdReserved04To07 _ _ => Sys2Proof.Machine.execCmdReserved04To07 s
  | .cmdReserved08To0F _ _ => Sys2Proof.Machine.execCmdReserved08To0F s
  | .cmdReserved10To1F _ _ => Sys2Proof.Machine.execCmdReserved10To1F s
  | .cmdReserved20To3F _ _ => Sys2Proof.Machine.execCmdReserved20To3F s
  | .cmdReserved40To7F _ _ => Sys2Proof.Machine.execCmdReserved40To7F s
  | .cmdReserved80ToFF _ _ => Sys2Proof.Machine.execCmdReserved80ToFF s
  | .tick => Sys2Proof.Machine.execTick s
  | .reset => Sys2Proof.Machine.execReset s
  | .rdBad _ => Sys2Proof.Machine.execRdBad s
  | .wrBad _ _ => Sys2Proof.Machine.execWrBad s

end Sys2Proof.Machine
end

