-- ==== Sys2Proof/Machine/Fetch.lean ====
section
/-! DEFINITION. How the block takes the next operation.  There is no program and no fetch (spec/10_state.md R18): the
agents issue operations, which take effect one at a time in one total order (spec/20_memory.md R56). -/

namespace Sys2Proof.Machine

/-- The state in which an operation begins: it is no longer pending, and nothing has been returned yet. -/
def beginOperation (rest : List TWord) (s : State) : State := (s.setOps rest).setRdata none

/-- Performs one word of the total order: decode and run it, or refuse what is not a transaction (spec/30_encoding.md
R62). -/
def perform (t : TWord) (s : State) : Host.Outcome State Fault Refusal :=
  match decode t with
  | .ok i => exec i s
  | .invalid why => .refused (.notATransaction why)

/-- The next operation of the total order; when none is issued, "every state element keeps its value until an operation
changes it" (spec/60_exceptions.md R191). -/
def nextOperation (s : State) : Host.Outcome State Fault Refusal :=
  match s.ops with
  | [] => .next s
  | t :: rest => perform t (beginOperation rest s)

/-- `t` issued ahead of every pending operation. -/
def issueFirst (t : TWord) (s : State) : State := s.setOps (t :: s.ops)

end Sys2Proof.Machine
end

