-- ==== Sys2Proof/Machine/Step.lean ====
section
/-! DEFINITION. One step: the next operation of the total order (spec/20_memory.md R56). -/

namespace Sys2Proof.Machine

/-- One atomic operation of one agent (spec/10_state.md R14). -/
def step (s : State) : Host.Outcome State Fault Refusal := nextOperation s

/-- The state in which the operation with the table's word `w` of `nbits` bits is the very next one performed. -/
def State.withFetchWord (s : State) (nbits w : Nat) : State := issueFirst (tableWord nbits w) s

end Sys2Proof.Machine
end

