-- ==== Sys2Proof/Machine/Assembler.lean ====
section
/-! DEFINITION. The assembler: the textual form of an operation and the pseudo-instructions (spec/30_encoding.md R69,
R70).  A line becomes a statement, a statement becomes the transaction words it stands for. -/

namespace Sys2Proof.Machine

/-- What makes a line an assembly error. -/
inductive AsmError where
  /-- The line is none of the forms of R69 and R70. -/
  | badForm
  /-- A name that is no register or slot. -/
  | unknownName
  /-- Not a decimal or 0x hexadecimal integer. -/
  | badNumber
  /-- "A VALUE outside [-2^31, 2^32) is an assembly error" (R69). -/
  | valueRange
  /-- A numeric address outside the 9-bit control space (spec/20_memory.md R46). -/
  | addrRange
  /-- A note or velocity outside 0..127, or a tick count below 1 (R70). -/
  | operandRange
  deriving DecidableEq, Repr

/-- A value, or the reason there is none. -/
inductive Asm (α : Type) where
  | ok (a : α)
  | error (e : AsmError)
  deriving DecidableEq, Repr

def Asm.bind {α β : Type} (x : Asm α) (f : α → Asm β) : Asm β :=
  match x with
  | .ok a => f a
  | .error e => .error e

/-- The two 64-bit quantities that are read as a pair (R70). -/
inductive Wide where
  | scount
  | start
  deriving DecidableEq, Repr

/-- One line of R69 or R70, its names and numbers resolved. -/
inductive AsmStmt where
  | rd (addr : Addr)
  | wr (addr : Addr) (value : Int)
  | tick
  | reset
  | nop
  | noteOn (note vel : Int)
  | noteOff (note : Int)
  | voiceReset
  | ticks (count : Int)
  | clrflags
  | ackirq
  | rd64 (q : Wide)
  | snap (slot : Slot) (value : Int)
  deriving DecidableEq, Repr

/-- `wr` at an address: the VALUE must lie in [-2^31, 2^32), a negative one stands for `u32(VALUE)` (R69). -/
def asmWrite (addr : Addr) (value : Int) : Asm (List TWord) :=
  if -2 ^ 31 ≤ value ∧ value < 2 ^ 32 then .ok [writeWord addr (BitVec.ofInt 32 value)] else .error .valueRange

/-- The address of TARGET[i] (spec/41_parameters.md R125). -/
def targetAddr (i : Slot) : Addr := BitVec.ofNat 9 (0x080 + 4 * i.index)

/-- The address of CURRENT[i] (R127). -/
def currentAddr (i : Slot) : Addr := BitVec.ofNat 9 (0x0C0 + 4 * i.index)

/-- The address of SMCFG[i] (R128). -/
def smcfgAddr (i : Slot) : Addr := BitVec.ofNat 9 (0x100 + 4 * i.index)

/-- `(0x01 << 24) | (N << 8) | V` (R70). -/
def noteOnValue (note vel : Int) : Int := 0x01 * 2 ^ 24 + note * 2 ^ 8 + vel

/-- `(0x02 << 24) | (N << 8)` (R70). -/
def noteOffValue (note : Int) : Int := 0x02 * 2 ^ 24 + note * 2 ^ 8

/-- A note number or a velocity: 0..127. -/
def sevenBits (n : Int) : Bool := 0 ≤ n && n ≤ 127

/-- The transaction words a statement stands for (R69, the expansions of R70). -/
def expand (a : AsmStmt) : Asm (List TWord) :=
  match a with
  | .rd addr => .ok [readWord addr]
  | .wr addr value => asmWrite addr value
  | .tick => .ok [mkWord 2#2 0#9 0#32]
  | .reset => .ok [mkWord 3#2 0#9 0#32]
  | .nop => asmWrite 0x004#9 0x00000000
  | .noteOn note vel =>
    if sevenBits note && sevenBits vel then asmWrite 0x004#9 (noteOnValue note vel) else .error .operandRange
  | .noteOff note => if sevenBits note then asmWrite 0x004#9 (noteOffValue note) else .error .operandRange
  | .voiceReset => asmWrite 0x004#9 0x03000000
  | .ticks count =>
    if 1 ≤ count then .ok (List.replicate count.toNat (mkWord 2#2 0#9 0#32)) else .error .operandRange
  | .clrflags => asmWrite 0x00C#9 0xF
  | .ackirq => asmWrite 0x014#9 0x1
  | .rd64 .scount => .ok [readWord 0x040#9, readWord 0x044#9]
  | .rd64 .start => .ok [readWord 0x048#9, readWord 0x04C#9]
  | .snap slot value =>
    (asmWrite (smcfgAddr slot) 0).bind fun a => (asmWrite (targetAddr slot) value).bind fun b => .ok (a ++ b)

/-! The text of a line. -/

/-- The register names of spec/10_state.md R21 outside the slot regions. -/
def registerNames : List (String × Nat) :=
  [
    ("ID", 0x000),
    ("CMD", 0x004),
    ("STATUS", 0x008),
    ("FLAGS", 0x00C),
    ("IRQ_EN", 0x010),
    ("IRQ_PEND", 0x014),
    ("OSC_CTRL", 0x018),
    ("FILT_CTRL", 0x01C),
    ("LFO_CTRL", 0x020),
    ("A4_FTW", 0x024),
    ("FTW_MIN", 0x028),
    ("ENV_ATTACK", 0x02C),
    ("ENV_DECAY", 0x030),
    ("ENV_SUSTAIN", 0x034),
    ("ENV_RELEASE", 0x038),
    ("ENV_FLOOR", 0x03C),
    ("SCOUNT_LO", 0x040),
    ("SCOUNT_HI", 0x044),
    ("START_LO", 0x048),
    ("START_HI", 0x04C),
    ("OUT", 0x050),
    ("ENV_LEVEL", 0x054),
    ("ENV_ELAPSED", 0x058),
    ("PHASE_A", 0x05C),
    ("PHASE_B", 0x060),
    ("LFO_PHASE", 0x064),
    ("LFO_VALUE", 0x068),
    ("FTW_A", 0x06C),
    ("FTW_B", 0x070),
    ("COEF_B0", 0x140),
    ("COEF_B1", 0x144),
    ("COEF_B2", 0x148),
    ("COEF_A1", 0x14C),
    ("COEF_A2", 0x150),
    ("HIST_X1", 0x154),
    ("HIST_X2", 0x158),
    ("HIST_Y1", 0x15C),
    ("HIST_Y2", 0x160)
  ]

/-- The slot names of spec/41_parameters.md R123. -/
def slotNames : List (String × Slot) :=
  [("BEND", .bend), ("DETUNE", .detune), ("MIX", .mix), ("CUTOFF", .cutoff), ("RES", .res), ("GAIN", .gain),
    ("LFO_RATE", .lfoRate), ("DEPTH_PITCH", .depthPitch), ("DEPTH_CUT", .depthCut), ("DEPTH_AMP", .depthAmp)]

/-- The first entry of a list of named things whose name is `tok`. -/
def named {α : Type} : List (String × α) → List Char → Option α
  | [], _ => none
  | (n, a) :: rest, tok => if tok = n.toList then some a else named rest tok

/-- A decimal digit's value. -/
def decDigit (c : Char) : Option Nat :=
  if 48 ≤ c.toNat && c.toNat ≤ 57 then some (c.toNat - 48) else none

/-- A hexadecimal digit's value, capitals or not. -/
def hexDigit (c : Char) : Option Nat :=
  if 97 ≤ c.toNat && c.toNat ≤ 102 then some (c.toNat - 87)
  else if 65 ≤ c.toNat && c.toNat ≤ 70 then some (c.toNat - 55)
  else decDigit c

/-- The digits of a number in a base; "`_` may separate digits" (R69).  `seen` says the last character was a digit. -/
def digits (base : Nat) (digit : Char → Option Nat) : List Char → Bool → Nat → Option Nat
  | [], seen, acc => if seen then some acc else none
  | c :: rest, seen, acc =>
    if c = '_' then if seen then digits base digit rest false acc else none
    else
      match digit c with
      | some d => digits base digit rest true (acc * base + d)
      | none => none

/-- A decimal or `0x` hexadecimal natural number. -/
def parseNat : List Char → Option Nat
  | '0' :: 'x' :: rest => digits 16 hexDigit rest false 0
  | cs => digits 10 decDigit cs false 0

/-- A VALUE: a decimal or `0x` hexadecimal integer, or a negative decimal (R69). -/
def parseInt : List Char → Option Int
  | '-' :: rest => (digits 10 decDigit rest false 0).map fun n => -(n : Int)
  | cs => (parseNat cs).map fun n => (n : Int)

def asmInt (tok : List Char) : Asm Int :=
  match parseInt tok with
  | some v => .ok v
  | none => .error .badNumber

/-- `TARGET[3]`: a number below 10 and the closing bracket (R69). -/
def bracketSlot (cs : List Char) : Option Slot :=
  match cs.getLast? with
  | some ']' => (parseNat cs.dropLast).bind fun n => (slotNames[n]?).map (·.2)
  | _ => none

/-- The slot after `TARGET`, `CURRENT` or `SMCFG`: `.CUTOFF` or `[3]`. -/
def slotSuffix : List Char → Option Slot
  | '.' :: rest => named slotNames rest
  | '[' :: rest => bracketSlot rest
  | _ => none

/-- What follows `pre` in `cs`. -/
def after : List Char → List Char → Option (List Char)
  | [], cs => some cs
  | _ :: _, [] => none
  | p :: pre, c :: cs => if p = c then after pre cs else none

/-- A register of one of the three slot regions. -/
def slotRegister (cs : List Char) : Option Addr :=
  match (after "TARGET".toList cs).bind slotSuffix with
  | some i => some (targetAddr i)
  | none =>
    match (after "CURRENT".toList cs).bind slotSuffix with
    | some i => some (currentAddr i)
    | none => ((after "SMCFG".toList cs).bind slotSuffix).map smcfgAddr

/-- An address operand: `@ADDR` or a register NAME of R21 (R69). -/
def parseAddr (tok : List Char) : Asm Addr :=
  match tok with
  | '@' :: rest =>
    match parseNat rest with
    | some a => if a < 512 then .ok (BitVec.ofNat 9 a) else .error .addrRange
    | none => .error .badNumber
  | cs =>
    match named registerNames cs with
    | some a => .ok (BitVec.ofNat 9 a)
    | none =>
      match slotRegister cs with
      | some a => .ok a
      | none => .error .unknownName

/-- The line up to a comment: "`;` starts a comment" (R69). -/
def uncomment : List Char → List Char
  | [] => []
  | c :: rest => if c = ';' then [] else c :: uncomment rest

/-- The tokens of a line: blanks separate, a comma is a token of its own. -/
def tokens : List Char → List Char → List (List Char)
  | [], cur => if cur.isEmpty then [] else [cur.reverse]
  | c :: rest, cur =>
    let done := if cur.isEmpty then [] else [cur.reverse]
    if c = ' ' || c = '\t' then done ++ tokens rest []
    else if c = ',' then done ++ [[',']] ++ tokens rest []
    else tokens rest (c :: cur)

/-- A statement with no operand (R69, R70). -/
def plainStmt (op : List Char) : Asm AsmStmt :=
  match named [("tick", .tick), ("reset", .reset), ("nop", .nop), ("voice_reset", .voiceReset), ("clrflags", .clrflags),
      ("ackirq", .ackirq)] op with
  | some a => .ok a
  | none => .error .badForm

/-- A statement with one operand. -/
def oneOperand (op x : List Char) : Asm AsmStmt :=
  if op = "rd".toList then (parseAddr x).bind fun a => .ok (.rd a)
  else if op = "note_off".toList then (asmInt x).bind fun n => .ok (.noteOff n)
  else if op = "ticks".toList then (asmInt x).bind fun n => .ok (.ticks n)
  else if op = "rd64".toList then
    match named [("SCOUNT", Wide.scount), ("START", Wide.start)] x with
    | some q => .ok (.rd64 q)
    | none => .error .unknownName
  else .error .badForm

/-- A statement with two operands. -/
def twoOperands (op x y : List Char) : Asm AsmStmt :=
  if op = "wr".toList then (parseAddr x).bind fun a => (asmInt y).bind fun v => .ok (.wr a v)
  else if op = "note_on".toList then (asmInt x).bind fun n => (asmInt y).bind fun v => .ok (.noteOn n v)
  else if op = "snap".toList then
    match named slotNames x with
    | some i => (asmInt y).bind fun v => .ok (.snap i v)
    | none => .error .unknownName
  else .error .badForm

/-- The statement of a line, none for a blank one. -/
def parseLine (line : String) : Asm (Option AsmStmt) :=
  match tokens (uncomment line.toList) [] with
  | [] => .ok none
  | [op] => (plainStmt op).bind fun a => .ok (some a)
  | [op, x] => (oneOperand op x).bind fun a => .ok (some a)
  | [op, x, [','], y] => (twoOperands op x y).bind fun a => .ok (some a)
  | _ => .error .badForm

/-- The transaction words of one line (R69, R70). -/
def assembleLine (line : String) : Asm (List TWord) :=
  (parseLine line).bind fun
    | none => .ok []
    | some a => expand a

/-- The transaction words of a program, "one per line" (R69). -/
def assemble : List String → Asm (List TWord)
  | [] => .ok []
  | line :: rest => (assembleLine line).bind fun a => (assemble rest).bind fun b => .ok (a ++ b)

end Sys2Proof.Machine
end

