-- ==== Sys2Proof/Machine/Ports.lean ====
section
/-! DEFINITION. The block's ports (spec/10_state.md R15), the two bus operations they carry (spec/20_memory.md R47, R48)
and the byte lanes of a bridge (R49). -/

namespace Sys2Proof.Machine

/-- `irq`: the level `IRQ_EN.IDLE AND IRQ_PEND.IDLE` (spec/60_exceptions.md R181). -/
def irqLine (s : State) : Bool := s.irqEn && s.irqPend

/-- `sample_out`: the 24 bits of OUT (spec/43_tick.md R142). -/
def sampleOut (s : State) : BitVec 24 := s.out

/-- `ctl_rdata` for the operation just performed: none when it was no READ. -/
def ctlRdata (s : State) : Option Word := s.rdata

/-- A request at the input ports: `ctl_re` with `ctl_addr`, `ctl_we` with `ctl_addr` and `ctl_wdata`, `tick`, `rst`. -/
inductive Request where
  | read (addr : Addr)
  | write (addr : Addr) (data : Word)
  | tick
  | rst
  deriving DecidableEq, Repr

/-- The transaction word of a port event (spec/30_encoding.md R61). -/
def Request.word : Request → TWord
  | .read addr => readWord addr
  | .write addr data => writeWord addr data
  | .tick => mkWord 2#2 0#9 0#32
  | .rst => mkWord 3#2 0#9 0#32

/-- A request joins the end of the total order, behind everything issued before it (R56). -/
def issue (r : Request) (s : State) : State := s.setOps (s.ops ++ [r.word])

/-- `BusRead(addr) -> data`: the data is left in `rdata` (R47). -/
def busRead (addr : Addr) (s : State) : Host.Outcome State Fault Refusal := exec (decodeRead addr) s

/-- `BusWrite(addr, data)` (R48). -/
def busWrite (addr : Addr) (data : Word) (s : State) : Host.Outcome State Fault Refusal := exec (decodeWrite addr data) s

/-- Byte k of a word on a byte-addressed bridge: "the word at address A occupies bytes A..A+3 with bits [7:0] at byte A"
(R49). -/
def bridgeByte (w : Word) (k : Fin 4) : Byte := w.extractLsb' (8 * k.val) 8

end Sys2Proof.Machine
end

