-- ==== Sys2Proof/Machine/System.lean ====
section
/-! DEFINITION. A polyphonic system: NUM_VOICES independent blocks that share no state (spec/60_exceptions.md R188,
spec/00_scope.md R8).  Which instance gets a note is a duty of the control agent (R189) and the sum of their outputs is
formed outside the blocks (spec/43_tick.md R142): both are software round the block (spec/00_scope.md R4), given here as
the functions the spec describes. -/

namespace Sys2Proof.Machine

/-- The instances in the order of their place in the system map. -/
abbrev System := List State

/-- NUM_VOICES blocks after RESET. -/
def resetSystem (numVoices : Nat) : System := List.replicate numVoices State.reset

/-- A control operation reaches the one instance whose window it addresses. -/
def issueTo (k : Nat) (r : Request) (sys : System) : System := sys.modify k (issue r)

/-- All instances receive the same TICK or RESET. -/
def issueAll (r : Request) (sys : System) : System := sys.map (issue r)

/-- The `irq` lines, one an instance; there are no inter-instance interrupts. -/
def irqLines (sys : System) : List Bool := sys.map irqLine

/-- The LFO of a block and everything that moves it: its phase, value and shape, and the LFO_RATE slot (R188). -/
def lfoView (s : State) : Lfo × SlotRegs := (s.lfo, s.slots.get .lfoRate)

/-- The operations that read or write what `lfoView` shows: TICK, RESET, a write of LFO_CTRL, and the writes of the
LFO_RATE slot.  "No command touches the LFO" (R188). -/
def touchesLfo (i : Instr) : Bool :=
  match i with
  | .tick | .reset | .wrLfoCtrl _ | .wrTargetLfoRate _ | .wrSmcfgLfoRate _ => true
  | _ => false

/-- The sum of the instances' outputs: "a system with several SFV instances adds their `sample_out` values outside the
block" (R142). -/
def sumOutputs (sys : System) : Int := (sys.map fun s => s.out.toInt).sum

/-- `a` is stolen rather than `b`: the earlier `start_time`, "ties broken by lowest velocity" (R189). -/
def stolenBefore (a b : State) : Bool :=
  a.counters.start < b.counters.start || (a.counters.start == b.counters.start && a.voice.vel < b.voice.vel)

/-- The first instance of a list, counted from k, that no other active one is stolen before; `best` is the choice so far. -/
def stealFrom : System → Nat → Option (Nat × State) → Option Nat
  | [], _, best => best.map (·.1)
  | s :: rest, k, none => stealFrom rest (k + 1) (if s.voice.stage.active then some (k, s) else none)
  | s :: rest, k, some (j, b) =>
    stealFrom rest (k + 1) (some (if s.voice.stage.active && stolenBefore s b then (k, s) else (j, b)))

/-- The steal of R189: the oldest active voice, then the lowest velocity, then the lowest instance index. -/
def stealTarget (sys : System) : Option Nat := stealFrom sys 0 none

/-- Instance k may be given a new note: it is free, or none is free and it is the one stolen (R189).  Which of several
free instances is taken the spec leaves to the control agent. -/
def mayAllocate (sys : System) (k : Nat) : Bool :=
  match sys[k]? with
  | some s => !s.voice.stage.active || (sys.all (fun v => v.voice.stage.active) && stealTarget sys == some k)
  | none => false

end Sys2Proof.Machine
end

