-- ==== Sys2Proof/Safety.lean ====
section
/-! DEFINITION. What the claims call a legal state and a run that cannot stop. -/

namespace Sys2Proof.Machine

/-- `v` lies in `[lo, hi]`. -/
abbrev within (lo v hi : Int) : Prop := lo ≤ v ∧ v ≤ hi

/-- TARGET[i] and CURRENT[i] lie in the WARL range of slot i (spec/41_parameters.md R123, R131). -/
abbrev SlotRegs.Legal (i : Slot) (r : SlotRegs) : Prop :=
  within (slotRow i).lo (slotValue i r.tgt) (slotRow i).hi ∧ within (slotRow i).lo (slotValue i r.cur) (slotRow i).hi

/-- Every element lies in its range of spec/10_state.md R16 (the ranges its type does not already give), and an idle
envelope is at level 0 with `elapsed` 0 (spec/47_envelope.md R172). -/
structure State.Legal (s : State) : Prop where
  a4Ftw : within 1 s.tuning.a4Ftw.toNat (2 ^ 31 - 1)
  ftwMin : within 1 s.tuning.ftwMin.toNat (2 ^ 31 - 1)
  att : within 1 s.envCtl.att.toNat (2 ^ 23)
  dec : within 1 s.envCtl.dec.toNat (2 ^ 23)
  sus : within 0 s.envCtl.sus.toNat (2 ^ 23)
  rel : within 1 s.envCtl.rel.toNat (2 ^ 23)
  floor : within 0 s.envCtl.floor.toNat (2 ^ 23)
  slots : ∀ i, SlotRegs.Legal i (s.slots.get i)
  lfoValue : within (-2 ^ 23) s.lfo.value.toInt (2 ^ 23)
  level : within 0 s.env.level.toNat (2 ^ 23)
  idleLevel : s.voice.stage = .idle → s.env.level = 0#25
  idleElapsed : s.voice.stage = .idle → s.env.elapsed = 0#32
  ftwA : within 0 s.ftw.a.toNat (2 ^ 31 - 1)
  ftwB : within 0 s.ftw.b.toNat (2 ^ 31 - 1)

/-- A sequence of operations, one after another, stopping at the first that does not answer a next state. -/
def execAll : List Instr → State → Host.Outcome State Fault Refusal
  | [], s => .next s
  | i :: rest, s =>
    match exec i s with
    | .next t => execAll rest t
    | .fault r => .fault r
    | .refused r => .refused r

/-- `n` TICKs. -/
abbrev ticks (n : Nat) (s : State) : Host.Outcome State Fault Refusal := execAll (List.replicate n .tick) s

/-- The fold of exec over a sequence of operations, each beginning with no value returned yet: what the block does with the
operations themselves, whatever else is still to perform (`rdata` is the model's own field, log entry 2). -/
def performAll : List Instr → State → Host.Outcome State Fault Refusal
  | [], s => .next s
  | i :: rest, s =>
    match exec i { s with rdata := none } with
    | .next t => performAll rest t
    | .fault r => .fault r
    | .refused r => .refused r

/-- Every word the agents have issued is a transaction (spec/30_encoding.md R62). -/
def State.AllTransactions (s : State) : Prop := ∀ t ∈ s.ops, ∃ i, decode t = .ok i

/-- The word a WARL write of `x` to a field of range [lo, hi] leaves in FLAGS: bit 0, CLAMP, set when `x` is outside. -/
abbrev clampFlags (x lo hi : Int) (flags : BitVec 4) : BitVec 4 := if lo ≤ x ∧ x ≤ hi then flags else flags ||| 0x1#4

end Sys2Proof.Machine
end

