-- ==== Sys2Proof/Certificates/Slice0/Obligations.lean ====
section
/-! DEFINITION. What the model claims of SFV-1, stated for the provers: encoding, the step, every operation, TICK and its
datapath, and the rules of the whole machine. -/

section

open Sys2Proof Sys2Proof.Machine

/-! ## Encoding and decoding -/

/-- The decoder answers instruction i for exactly the word the encoder gives i, and only for well-formed i: no bit of an
encoding is dropped and no word has two readings (spec/30_encoding.md R61 to R66). -/
def Obligations.DecoderInvertsEncoder : Prop :=
  ∀ (t : TWord) (i : Instr), decode t = .ok i ↔ i.wf = true ∧ encode i = t

/-- A word is an operation exactly when RSV is 0, DATA is 0 unless it is a WRITE, and ADDR is 0 in a TICK and a RESET; on
any other word the step stops, refusing it (R62). -/
def Obligations.NonTransactionsAreRefused : Prop :=
  ∀ t : TWord,
    ((∃ i, decode t = .ok i) ↔
      t.extractLsb' 41 5 = 0#5 ∧ (t.extractLsb' 46 2 ≠ 1#2 → t.extractLsb' 0 32 = 0#32) ∧
        (2 ≤ (t.extractLsb' 46 2).toNat → t.extractLsb' 32 9 = 0#9)) ∧
    ((∀ i, decode t ≠ .ok i) → ∀ (s : State) (rest : List TWord), s.ops = t :: rest →
      ∃ why, step s = .refused (.notATransaction why))

/-- Words written out from the encodings of the spec, one or more a family, decode to what they stand for. -/
def Obligations.SpecWordsDecodeToTheirOperations : Prop :=
  decode 0x000000000000#48 = .ok .rdId ∧
  decode 0x004000000000#48 = .ok .rdScountLo ∧
  decode 0x015800000000#48 = .ok .rdHistX2 ∧
  decode 0x400CDEADBEEF#48 = .ok (.wrFlags 0xDEADBEEF#32) ∧
  decode 0x402480000000#48 = .ok (.wrA4Ftw 0x80000000#32) ∧
  decode 0x408C40000000#48 = .ok (.wrTargetCutoff 0x40000000#32) ∧
  decode 0x00D400000000#48 = .ok .rdCurrentGain ∧
  decode 0x410C00010008#48 = .ok (.wrSmcfgCutoff 0x00010008#32) ∧
  decode 0x40040100457F#48 = .ok (.noteOn 0#9 69#7 0#1 127#7) ∧
  decode 0x400402FFFFFF#48 = .ok (.noteOff 0x1FF#9 127#7 0xFF#8) ∧
  decode 0x400404000000#48 = .ok (.cmdReserved04To07 0x04#8 0#24) ∧
  decode 0x800000000000#48 = .ok .tick ∧
  decode 0xC00000000000#48 = .ok .reset ∧
  decode 0x004100000000#48 = .ok (.rdBad 0x041#9) ∧
  decode 0x405000000005#48 = .ok (.wrBad 0x050#9 5#32)

/-- READ.BAD and WRITE.BAD: at a misaligned or reserved address, and for a WRITE at an address of a read-only register too,
the operation sets FLAGS.BADACC, a READ returns 0, and nothing else changes (R71). -/
def Obligations.BadAccessSetsBadaccOnly : Prop :=
  (∀ a : Addr,
    a.toNat % 4 ≠ 0 ∨ (0x070 < a.toNat ∧ a.toNat < 0x080) ∨ (0x0A4 < a.toNat ∧ a.toNat < 0x0C0) ∨
      (0x0E4 < a.toNat ∧ a.toNat < 0x100) ∨ (0x124 < a.toNat ∧ a.toNat < 0x140) ∨ 0x160 < a.toNat →
    decode (readWord a) = .ok (.rdBad a) ∧ ∀ d, decode (writeWord a d) = .ok (.wrBad a d)) ∧
  (∀ (a : Addr) (d : Word),
    a.toNat % 4 = 0 → a = 0x000#9 ∨ a = 0x008#9 ∨ (0x040 ≤ a.toNat ∧ a.toNat ≤ 0x070) ∨
      (0x0C0 ≤ a.toNat ∧ a.toNat ≤ 0x0E4) ∨ (0x140 ≤ a.toNat ∧ a.toNat ≤ 0x160) →
    decode (writeWord a d) = .ok (.wrBad a d)) ∧
  (∀ (a : Addr) (s : State), exec (.rdBad a) s = .next { s with flags := s.flags ||| 0x8#4, rdata := some 0#32 }) ∧
  (∀ (a : Addr) (d : Word) (s : State), exec (.wrBad a d) s = .next { s with flags := s.flags ||| 0x8#4 })

/-- The pseudo-instructions stand for the operations of R70. -/
def Obligations.PseudoInstructionsExpandAsListed : Prop :=
  (∀ n v : Nat, n ≤ 127 → v ≤ 127 →
    ∃ w, expand (.noteOn n v) = .ok [w] ∧ decode w = .ok (.noteOn 0#9 (BitVec.ofNat 7 n) 0#1 (BitVec.ofNat 7 v))) ∧
  (∀ n : Nat, n ≤ 127 → ∃ w, expand (.noteOff n) = .ok [w] ∧ decode w = .ok (.noteOff 0#9 (BitVec.ofNat 7 n) 0#8)) ∧
  (∃ w, expand .nop = .ok [w] ∧ decode w = .ok (.nop 0#24)) ∧
  (∃ w, expand .voiceReset = .ok [w] ∧ decode w = .ok (.voiceReset 0#24)) ∧
  (∃ w, expand .clrflags = .ok [w] ∧ decode w = .ok (.wrFlags 0xF#32)) ∧
  (∃ w, expand .ackirq = .ok [w] ∧ decode w = .ok (.wrIrqPend 0x1#32)) ∧
  (∀ k : Nat, 1 ≤ k → ∃ w, expand (.ticks k) = .ok (List.replicate k w) ∧ decode w = .ok .tick) ∧
  (∃ w v, expand (.rd64 .scount) = .ok [w, v] ∧ decode w = .ok .rdScountLo ∧ decode v = .ok .rdScountHi) ∧
  (∃ w v, expand (.rd64 .start) = .ok [w, v] ∧ decode w = .ok .rdStartLo ∧ decode v = .ok .rdStartHi) ∧
  (∀ (i : Slot) (x : Int), -2 ^ 31 ≤ x → x < 2 ^ 32 →
    ∃ w v, expand (.snap i x) = .ok [w, v] ∧ decode w = .ok (.wrSmcfg i 0#32) ∧
      decode v = .ok (.wrTarget i (BitVec.ofInt 32 x)))

/-! ## The step -/

/-- One step performs the first operation of the total order: it takes it off the order, forgets what the operation before
returned, and is exec of the decoded instruction there.  The second clause says it of a word placed by withFetchWord.  With
no operation issued a step leaves every state element as it is (R191: "Every state element keeps its value until an
operation changes it").  `ops` and `rdata` are the model's own fields (log entries 1 and 2). -/
def Obligations.StepPerformsTheNextOperation : Prop :=
  (∀ (s : State) (t : TWord) (rest : List TWord) (i : Instr), s.ops = t :: rest → decode t = .ok i →
    step s = exec i { s with ops := rest, rdata := none }) ∧
  (∀ (s : State) (nbits w : Nat) (i : Instr), decodeTableWord nbits w = some i →
    step (s.withFetchWord nbits w) = exec i { s with rdata := none }) ∧
  (∀ s : State, s.ops = [] → step s = .next s)

/-- No transaction is refused, aborted, delayed or retried (spec/60_exceptions.md R179): when every issued word is a
transaction, the run of k steps is the fold of exec over the first k operations they decode to, in order, each beginning
with no value returned; what remains issued is the rest.  The fields `ops` and `rdata` are the model's own (log entries 1
and 2). -/
def Obligations.TransactionsNeverStop : Prop :=
  ∀ s : State, s.AllTransactions →
    ∃ is : List Instr, s.ops.map decode = is.map Decoded.ok ∧
      ∀ k : Nat, ∃ t : State, Sys2Proof.core.run k s = .next t ∧ t.ops = s.ops.drop k ∧
        performAll (is.take k) { s with ops := s.ops.drop k } = .next t

/-- Every operation, well-formed or not, completes from every state and issues nothing. -/
def Obligations.EveryOperationCompletes : Prop :=
  ∀ (i : Instr) (s : State), ∃ t, exec i s = .next t ∧ t.ops = s.ops

/-! ## READ -/

/-- READ ID, CMD, STATUS and FLAGS (R72 to R75): the value returned, and nothing else changes. -/
def Obligations.ReadsOfIdStatusAndFlags : Prop :=
  (∀ p ∈ [(Instr.rdId, 0x000#9), (Instr.rdCmd, 0x004#9), (Instr.rdStatus, 0x008#9), (Instr.rdFlags, 0x00C#9)],
    encode p.1 = readWord p.2) ∧
  ∀ s : State,
    exec .rdId s = .next { s with rdata := some 0x53460100#32 } ∧
    exec .rdCmd s = .next { s with rdata := some 0#32 } ∧
    exec .rdStatus s = .next { s with
      rdata := some (BitVec.ofNat 32 (s.voice.vel.toNat * 2 ^ 16 + s.voice.note.toNat * 2 ^ 8 +
        match s.voice.stage with
        | .idle => 0
        | .attack => 8 + 1
        | .decay => 8 + 2
        | .sustain => 8 + 3
        | .release => 8 + 4)) } ∧
    exec .rdFlags s = .next { s with rdata := some (BitVec.ofNat 32 s.flags.toNat) }

/-- READ of the interrupt, control and tuning registers (R77, R79, R81, R83, R85, R87, R89).  The codes of the enumerated
fields are the named ones of R28, R29 and R30 (the last clauses). -/
def Obligations.ReadsOfControlRegisters : Prop :=
  (∀ p ∈ [(Instr.rdIrqEn, 0x010#9), (Instr.rdIrqPend, 0x014#9), (Instr.rdOscCtrl, 0x018#9),
      (Instr.rdFiltCtrl, 0x01C#9), (Instr.rdLfoCtrl, 0x020#9), (Instr.rdA4Ftw, 0x024#9),
      (Instr.rdFtwMin, 0x028#9)],
    encode p.1 = readWord p.2) ∧
  ∀ s : State,
    exec .rdIrqEn s = .next { s with rdata := some (if s.irqEn then 1#32 else 0#32) } ∧
    exec .rdIrqPend s = .next { s with rdata := some (if s.irqPend then 1#32 else 0#32) } ∧
    (∃ v : Word, exec .rdOscCtrl s = .next { s with rdata := some v } ∧
      v.toNat = (if s.oscCtl.freeRun then 2 ^ 8 else 0) + s.oscCtl.waveB.code.toNat * 2 ^ 4 + s.oscCtl.waveA.code.toNat) ∧
    (∃ v : Word, exec .rdFiltCtrl s = .next { s with rdata := some v } ∧ v.toNat = s.mode.code.toNat) ∧
    (∃ v : Word, exec .rdLfoCtrl s = .next { s with rdata := some v } ∧ v.toNat = s.lfo.shape.code.toNat) ∧
    exec .rdA4Ftw s = .next { s with rdata := some s.tuning.a4Ftw } ∧
    exec .rdFtwMin s = .next { s with rdata := some s.tuning.ftwMin } ∧
    (s.oscCtl = { waveA := .saw, waveB := .square, freeRun := false } → exec .rdOscCtrl s = .next { s with rdata := some 0x21#32 }) ∧
    (s.oscCtl = { waveA := .triangle, waveB := .sine, freeRun := true } → exec .rdOscCtrl s = .next { s with rdata := some 0x103#32 }) ∧
    (∀ p ∈ [(FilterMode.lowpass, 0#32), (.highpass, 1#32), (.bandpass, 2#32), (.bypass, 3#32)],
      s.mode = p.1 → exec .rdFiltCtrl s = .next { s with rdata := some p.2 }) ∧
    (∀ p ∈ [(LfoShape.sine, 0#32), (.triangle, 1#32), (.rampUp, 2#32), (.rampDown, 3#32)],
      s.lfo.shape = p.1 → exec .rdLfoCtrl s = .next { s with rdata := some p.2 })

/-- READ of the envelope's registers (R91, R93, R95, R97, R99, R106, R107): zero-extended. -/
def Obligations.ReadsOfEnvelopeRegisters : Prop :=
  (∀ p ∈ [(Instr.rdEnvAttack, 0x02C#9), (Instr.rdEnvDecay, 0x030#9), (Instr.rdEnvSustain, 0x034#9),
      (Instr.rdEnvRelease, 0x038#9), (Instr.rdEnvFloor, 0x03C#9), (Instr.rdEnvLevel, 0x054#9),
      (Instr.rdEnvElapsed, 0x058#9)],
    encode p.1 = readWord p.2) ∧
  ∀ s : State,
    exec .rdEnvAttack s = .next { s with rdata := some (BitVec.ofNat 32 s.envCtl.att.toNat) } ∧
    exec .rdEnvDecay s = .next { s with rdata := some (BitVec.ofNat 32 s.envCtl.dec.toNat) } ∧
    exec .rdEnvSustain s = .next { s with rdata := some (BitVec.ofNat 32 s.envCtl.sus.toNat) } ∧
    exec .rdEnvRelease s = .next { s with rdata := some (BitVec.ofNat 32 s.envCtl.rel.toNat) } ∧
    exec .rdEnvFloor s = .next { s with rdata := some (BitVec.ofNat 32 s.envCtl.floor.toNat) } ∧
    exec .rdEnvLevel s = .next { s with rdata := some (BitVec.ofNat 32 s.env.level.toNat) } ∧
    exec .rdEnvElapsed s = .next { s with rdata := some s.env.elapsed }

/-- READ of the counters (R101 to R104): SCOUNT_LO latches the high half, and SCOUNT_HI returns what was latched. -/
def Obligations.ReadsOfCounters : Prop :=
  (∀ p ∈ [(Instr.rdScountLo, 0x040#9), (Instr.rdScountHi, 0x044#9), (Instr.rdStartLo, 0x048#9),
      (Instr.rdStartHi, 0x04C#9)],
    encode p.1 = readWord p.2) ∧
  ∀ s : State,
    exec .rdScountLo s = .next { s with
      rdata := some (BitVec.ofNat 32 (s.counters.scount.toNat % 2 ^ 32))
      counters := { s.counters with shadow := BitVec.ofNat 32 (s.counters.scount.toNat / 2 ^ 32) } } ∧
    exec .rdScountHi s = .next { s with rdata := some s.counters.shadow } ∧
    exec .rdStartLo s = .next { s with rdata := some (BitVec.ofNat 32 (s.counters.start.toNat % 2 ^ 32)) } ∧
    exec .rdStartHi s = .next { s with rdata := some (BitVec.ofNat 32 (s.counters.start.toNat / 2 ^ 32)) }

/-- SCOUNT_LO then SCOUNT_HI give one consistent 64-bit value, the count at the first read, whatever operations fall between
them, TICKs among them, that are no RESET and no other read of SCOUNT_LO (spec/20_memory.md R52). -/
def Obligations.SplitCounterReadIsConsistent : Prop :=
  ∀ (s s1 s2 : State) (mid : List Instr), (∀ i ∈ mid, i ≠ .reset ∧ i ≠ .rdScountLo) →
    exec .rdScountLo s = .next s1 → execAll mid s1 = .next s2 →
    ∃ (lo hi : Word) (s3 : State), s1.rdata = some lo ∧ exec .rdScountHi s2 = .next s3 ∧ s3.rdata = some hi ∧
      s.counters.scount.toNat = hi.toNat * 2 ^ 32 + lo.toNat

/-- READ of the observation registers (R105, R108 to R113): OUT and LFO_VALUE are sign-extended. -/
def Obligations.ReadsOfObservationRegisters : Prop :=
  (∀ p ∈ [(Instr.rdOut, 0x050#9), (Instr.rdPhaseA, 0x05C#9), (Instr.rdPhaseB, 0x060#9),
      (Instr.rdLfoPhase, 0x064#9), (Instr.rdLfoValue, 0x068#9), (Instr.rdFtwA, 0x06C#9),
      (Instr.rdFtwB, 0x070#9)],
    encode p.1 = readWord p.2) ∧
  ∀ s : State,
    exec .rdOut s = .next { s with rdata := some (BitVec.ofInt 32 s.out.toInt) } ∧
    exec .rdPhaseA s = .next { s with rdata := some s.osc.a } ∧
    exec .rdPhaseB s = .next { s with rdata := some s.osc.b } ∧
    exec .rdLfoPhase s = .next { s with rdata := some s.lfo.phase } ∧
    exec .rdLfoValue s = .next { s with rdata := some (BitVec.ofInt 32 s.lfo.value.toInt) } ∧
    exec .rdFtwA s = .next { s with rdata := some s.ftw.a } ∧
    exec .rdFtwB s = .next { s with rdata := some s.ftw.b }

/-- READ of the filter's coefficients and history (R114 to R122): the history is sign-extended. -/
def Obligations.ReadsOfFilterRegisters : Prop :=
  (∀ p ∈ [(Instr.rdCoefB0, 0x140#9), (Instr.rdCoefB1, 0x144#9), (Instr.rdCoefB2, 0x148#9),
      (Instr.rdCoefA1, 0x14C#9), (Instr.rdCoefA2, 0x150#9), (Instr.rdHistX1, 0x154#9),
      (Instr.rdHistX2, 0x158#9), (Instr.rdHistY1, 0x15C#9), (Instr.rdHistY2, 0x160#9)],
    encode p.1 = readWord p.2) ∧
  ∀ s : State,
    exec .rdCoefB0 s = .next { s with rdata := some s.coef.b0 } ∧
    exec .rdCoefB1 s = .next { s with rdata := some s.coef.b1 } ∧
    exec .rdCoefB2 s = .next { s with rdata := some s.coef.b2 } ∧
    exec .rdCoefA1 s = .next { s with rdata := some s.coef.a1 } ∧
    exec .rdCoefA2 s = .next { s with rdata := some s.coef.a2 } ∧
    exec .rdHistX1 s = .next { s with rdata := some (BitVec.ofInt 32 s.hist.x1.toInt) } ∧
    exec .rdHistX2 s = .next { s with rdata := some (BitVec.ofInt 32 s.hist.x2.toInt) } ∧
    exec .rdHistY1 s = .next { s with rdata := some (BitVec.ofInt 32 s.hist.y1.toInt) } ∧
    exec .rdHistY2 s = .next { s with rdata := some (BitVec.ofInt 32 s.hist.y2.toInt) }

/-- READ TARGET[i], CURRENT[i] and SMCFG[i], for each of the ten slots (R126, R127, R129). -/
def Obligations.ReadsOfSlotRegisters : Prop :=
  ∀ (i : Slot) (s : State),
    encode (.rdTarget i) = readWord (BitVec.ofNat 9 (0x080 + 4 * i.index)) ∧
    encode (.rdCurrent i) = readWord (BitVec.ofNat 9 (0x0C0 + 4 * i.index)) ∧
    encode (.rdSmcfg i) = readWord (BitVec.ofNat 9 (0x100 + 4 * i.index)) ∧
    exec (.rdTarget i) s = .next { s with rdata := some (s.slots.get i).tgt } ∧
    exec (.rdCurrent i) s = .next { s with rdata := some (s.slots.get i).cur } ∧
    exec (.rdSmcfg i) s = .next { s with
      rdata := some (BitVec.ofNat 32 ((s.slots.get i).maxstep.toNat * 2 ^ 8 + (s.slots.get i).shift.toNat)) }

/-- The side effects of reading (spec/20_memory.md R53): a READ changes nothing but the value returned, except that reading
SCOUNT_LO latches `shadow` and reading a misaligned or reserved address sets FLAGS.BADACC. -/
def Obligations.ReadSideEffectsAreTheListedOnes : Prop :=
  ∀ (a : Addr) (s : State), ∃ v : Word,
    busRead a s =
      if a = 0x040#9 then
        .next { s with
          rdata := some v
          counters := { s.counters with shadow := s.counters.scount.extractLsb' 32 32 } }
      else if a.mapped then .next { s with rdata := some v }
      else .next { s with rdata := some 0#32, flags := s.flags ||| 0x8#4 }

/-! ## WRITE -/

/-- WRITE FLAGS and IRQ_PEND clear exactly the bits written as 1 (R76, R80), and change nothing else. -/
def Obligations.WriteOneToClear : Prop :=
  ∀ (d : Word) (s : State),
    (∀ p ∈ [(Instr.wrFlags d, 0x00C#9), (Instr.wrIrqPend d, 0x014#9)],
      encode p.1 = writeWord p.2 d) ∧
    (∃ t, exec (.wrFlags d) s = .next t ∧
      (∀ k < 4, t.flags.getLsbD k = (s.flags.getLsbD k && !d.getLsbD k)) ∧ t = { s with flags := t.flags }) ∧
    exec (.wrIrqPend d) s = .next { s with irqPend := s.irqPend && decide (d.toNat % 2 = 0) }

/-- WRITE IRQ_EN, OSC_CTRL, FILT_CTRL and LFO_CTRL take their fields' bits directly and ignore the others (R78, R82, R84,
R86): no flag is set, neither the filter history nor a phase changes, a new waveform or mode is what the very next TICK
uses, and enabling a pending interrupt raises `irq` at once.  The first clauses fix the code of every waveform, mode and
shape (R28, R29, R30). -/
def Obligations.WritesOfFieldRegisters : Prop :=
  ([Waveform.sine, .saw, .square, .triangle].map fun w => w.code.toNat) = [0, 1, 2, 3] ∧
  ([FilterMode.lowpass, .highpass, .bandpass, .bypass].map fun m => m.code.toNat) = [0, 1, 2, 3] ∧
  ([LfoShape.sine, .triangle, .rampUp, .rampDown].map fun g => g.code.toNat) = [0, 1, 2, 3] ∧
  ∀ (d : Word) (s : State),
    (∀ p ∈ [(Instr.wrIrqEn d, 0x010#9), (Instr.wrOscCtrl d, 0x018#9), (Instr.wrFiltCtrl d, 0x01C#9),
        (Instr.wrLfoCtrl d, 0x020#9)],
      encode p.1 = writeWord p.2 d) ∧
    (∃ t, exec (.wrIrqEn d) s = .next t ∧ t = { s with irqEn := decide (d.toNat % 2 = 1) } ∧
      irqLine t = (decide (d.toNat % 2 = 1) && s.irqPend)) ∧
    (∃ c : OscCtrl, exec (.wrOscCtrl d) s = .next { s with oscCtl := c } ∧
      execAll [.wrOscCtrl d, .tick] s = exec .tick { s with oscCtl := c } ∧ c.waveA.code.toNat = d.toNat % 4 ∧
      c.waveB.code.toNat = d.toNat / 2 ^ 4 % 4 ∧ c.freeRun = decide (d.toNat / 2 ^ 8 % 2 = 1)) ∧
    (∃ m : FilterMode, exec (.wrFiltCtrl d) s = .next { s with mode := m } ∧
      execAll [.wrFiltCtrl d, .tick] s = exec .tick { s with mode := m } ∧ m.code.toNat = d.toNat % 4) ∧
    (∃ g : LfoShape, exec (.wrLfoCtrl d) s = .next { s with lfo := { s.lfo with shape := g } } ∧
      g.code.toNat = d.toNat % 4)

/-- WRITE of the WARL control registers (R88, R90, R92, R94, R96, R98, R100): DATA, unsigned, is clamped to the field's
range and stored, CLAMP is set exactly when it was outside, and nothing else changes. -/
def Obligations.WritesOfClampedRegisters : Prop :=
  ∀ (d : Word) (s : State),
    (∀ p ∈ [(Instr.wrA4Ftw d, 0x024#9), (Instr.wrFtwMin d, 0x028#9), (Instr.wrEnvAttack d, 0x02C#9),
        (Instr.wrEnvDecay d, 0x030#9), (Instr.wrEnvSustain d, 0x034#9), (Instr.wrEnvRelease d, 0x038#9),
        (Instr.wrEnvFloor d, 0x03C#9)],
      encode p.1 = writeWord p.2 d) ∧
    (∃ v : Word, (v.toNat : Int) = max 1 (min d.toNat (2 ^ 31 - 1)) ∧
      exec (.wrA4Ftw d) s = .next { s with
        tuning := { s.tuning with a4Ftw := v }, flags := clampFlags d.toNat 1 (2 ^ 31 - 1) s.flags }) ∧
    (∃ v : Word, (v.toNat : Int) = max 1 (min d.toNat (2 ^ 31 - 1)) ∧
      exec (.wrFtwMin d) s = .next { s with
        tuning := { s.tuning with ftwMin := v }, flags := clampFlags d.toNat 1 (2 ^ 31 - 1) s.flags }) ∧
    (∃ v : BitVec 24, (v.toNat : Int) = max 1 (min d.toNat (2 ^ 23)) ∧
      exec (.wrEnvAttack d) s = .next { s with
        envCtl := { s.envCtl with att := v }, flags := clampFlags d.toNat 1 (2 ^ 23) s.flags }) ∧
    (∃ v : BitVec 24, (v.toNat : Int) = max 1 (min d.toNat (2 ^ 23)) ∧
      exec (.wrEnvDecay d) s = .next { s with
        envCtl := { s.envCtl with dec := v }, flags := clampFlags d.toNat 1 (2 ^ 23) s.flags }) ∧
    (∃ v : BitVec 24, (v.toNat : Int) = min d.toNat (2 ^ 23) ∧
      exec (.wrEnvSustain d) s = .next { s with
        envCtl := { s.envCtl with sus := v }, flags := clampFlags d.toNat 0 (2 ^ 23) s.flags }) ∧
    (∃ v : BitVec 24, (v.toNat : Int) = max 1 (min d.toNat (2 ^ 23)) ∧
      exec (.wrEnvRelease d) s = .next { s with
        envCtl := { s.envCtl with rel := v }, flags := clampFlags d.toNat 1 (2 ^ 23) s.flags }) ∧
    (∃ v : BitVec 24, (v.toNat : Int) = min d.toNat (2 ^ 23) ∧
      exec (.wrEnvFloor d) s = .next { s with
        envCtl := { s.envCtl with floor := v }, flags := clampFlags d.toNat 0 (2 ^ 23) s.flags })

/-- WRITE TARGET[i] (R125), for each of the ten slots: DATA, read as the slot's row of R123 says, is clamped to the row's
range and stored in TARGET[i]; CLAMP is set exactly when it was outside; CURRENT[i], SMCFG[i], the other slots and all
other state are unchanged; and a second write replaces the first, but for the CLAMP the first may have set.  The first
clauses are the rows of R123, number by number. -/
def Obligations.WriteTargetClampsAndFlags : Prop :=
  ([Slot.bend, .detune, .mix, .cutoff, .res, .gain, .lfoRate, .depthPitch, .depthCut, .depthAmp].map fun i =>
    (i.index, (slotRow i).signed, (slotRow i).lo, (slotRow i).hi)) =
    [(0, true, -49152, 49152), (1, true, -12288, 12288), (2, false, 0, 2 ^ 23), (3, false, 0x00040000, 0x7C000000),
      (4, false, 0x0800, 0xFFFF), (5, false, 0, 2 ^ 23), (6, false, 0, 2 ^ 28), (7, true, -49152, 49152),
      (8, true, -2 ^ 31, 2 ^ 31 - 1), (9, true, -2 ^ 23, 2 ^ 23)] ∧
  (∀ (i : Slot) (w : Word), slotValue i w = if (slotRow i).signed then w.toInt else (w.toNat : Int)) ∧
  ∀ (i : Slot) (d : Word) (s : State),
    encode (.wrTarget i d) = writeWord (BitVec.ofNat 9 (0x080 + 4 * i.index)) d ∧
    ∃ t, exec (.wrTarget i d) s = .next t ∧
      let x : Int := if (slotRow i).signed then d.toInt else d.toNat
      slotValue i (t.slots.get i).tgt = max (slotRow i).lo (min x (slotRow i).hi) ∧
      t.flags = clampFlags x (slotRow i).lo (slotRow i).hi s.flags ∧
      t.slots.get i = { s.slots.get i with tgt := (t.slots.get i).tgt } ∧
      (∀ j, j ≠ i → t.slots.get j = s.slots.get j) ∧
      t = { s with slots := t.slots, flags := t.flags } ∧
      ∀ e, ∃ u v, exec (.wrTarget i e) t = .next u ∧ exec (.wrTarget i e) s = .next v ∧ u = { v with flags := u.flags }

/-- WRITE SMCFG[i] (R128): `SHIFT <- DATA[4:0]`, `MAXSTEP <- DATA[31:8]`; no flag is set, every value is
legal; and SHIFT 0 with MAXSTEP 0 makes the slot jump to its target in the next TICK. -/
def Obligations.WriteSmcfgTakesItsFields : Prop :=
  ∀ (i : Slot) (d : Word) (s : State),
    encode (.wrSmcfg i d) = writeWord (BitVec.ofNat 9 (0x100 + 4 * i.index)) d ∧
    ∃ t, exec (.wrSmcfg i d) s = .next t ∧
      (t.slots.get i).shift.toNat = d.toNat % 2 ^ 5 ∧ (t.slots.get i).maxstep.toNat = d.toNat / 2 ^ 8 ∧
      (t.slots.get i).tgt = (s.slots.get i).tgt ∧ (t.slots.get i).cur = (s.slots.get i).cur ∧
      (∀ j, j ≠ i → t.slots.get j = s.slots.get j) ∧
      t = { s with slots := t.slots } ∧
      (d.toNat % 2 ^ 5 = 0 → d.toNat / 2 ^ 8 = 0 →
        ∃ u, exec .tick t = .next u ∧ (u.slots.get i).cur = (s.slots.get i).tgt)

/-- The preset round trip (R132): in a legal state every RW register, written back with the value read from it, leaves the
whole state unchanged and sets no flag. -/
def Obligations.PresetRoundTripChangesNothing : Prop :=
  ∀ s : State, s.Legal → ∀ v : Word,
    (∀ i, exec (.rdTarget i) s = .next { s with rdata := some v } → exec (.wrTarget i v) s = .next s) ∧
    (∀ i, exec (.rdSmcfg i) s = .next { s with rdata := some v } → exec (.wrSmcfg i v) s = .next s) ∧
    (exec .rdIrqEn s = .next { s with rdata := some v } → exec (.wrIrqEn v) s = .next s) ∧
    (exec .rdOscCtrl s = .next { s with rdata := some v } → exec (.wrOscCtrl v) s = .next s) ∧
    (exec .rdFiltCtrl s = .next { s with rdata := some v } → exec (.wrFiltCtrl v) s = .next s) ∧
    (exec .rdLfoCtrl s = .next { s with rdata := some v } → exec (.wrLfoCtrl v) s = .next s) ∧
    (exec .rdA4Ftw s = .next { s with rdata := some v } → exec (.wrA4Ftw v) s = .next s) ∧
    (exec .rdFtwMin s = .next { s with rdata := some v } → exec (.wrFtwMin v) s = .next s) ∧
    (exec .rdEnvAttack s = .next { s with rdata := some v } → exec (.wrEnvAttack v) s = .next s) ∧
    (exec .rdEnvDecay s = .next { s with rdata := some v } → exec (.wrEnvDecay v) s = .next s) ∧
    (exec .rdEnvSustain s = .next { s with rdata := some v } → exec (.wrEnvSustain v) s = .next s) ∧
    (exec .rdEnvRelease s = .next { s with rdata := some v } → exec (.wrEnvRelease v) s = .next s) ∧
    (exec .rdEnvFloor s = .next { s with rdata := some v } → exec (.wrEnvFloor v) s = .next s)

/-! ## Commands and RESET -/

/-- NOP changes nothing; a reserved command sets FLAGS.BADCMD and changes nothing else, FLAGS.BADACC in particular (R133,
R137).  The last clause says it of every CMD word with an opcode of 0x04 to 0xFF. -/
def Obligations.NopAndReservedCommands : Prop :=
  ∀ (s : State) (op : BitVec 8) (x : BitVec 24),
    exec (.nop x) s = .next s ∧ decode (writeWord 0x004#9 (0x00#8 ++ x)) = .ok (.nop x) ∧
    exec (.cmdReserved04To07 op x) s = .next { s with flags := s.flags ||| 0x4#4 } ∧
    exec (.cmdReserved08To0F op x) s = .next { s with flags := s.flags ||| 0x4#4 } ∧
    exec (.cmdReserved10To1F op x) s = .next { s with flags := s.flags ||| 0x4#4 } ∧
    exec (.cmdReserved20To3F op x) s = .next { s with flags := s.flags ||| 0x4#4 } ∧
    exec (.cmdReserved40To7F op x) s = .next { s with flags := s.flags ||| 0x4#4 } ∧
    exec (.cmdReserved80ToFF op x) s = .next { s with flags := s.flags ||| 0x4#4 } ∧
    (4 ≤ op.toNat → busWrite 0x004#9 (op ++ x) s = .next { s with flags := s.flags ||| 0x4#4 })

/-- NOTE_ON, from any stage (R134): exactly these elements change, whatever the ignored bits hold; the phases go to 0 unless
FREE_RUN; and the first TICK after it outputs 0. -/
def Obligations.NoteOnStartsTheVoice : Prop :=
  ∀ (x : BitVec 9) (note : BitVec 7) (x7 : BitVec 1) (vel : BitVec 7) (s : State),
    exec (.noteOn x note x7 vel) s = .next { s with
      voice := { stage := .attack, note := note, vel := vel }
      env := { level := 0#25, elapsed := 0#32 }
      counters := { s.counters with start := s.counters.scount }
      osc := if s.oscCtl.freeRun then s.osc else { a := 0#32, b := 0#32 }
      hist := { x1 := 0#24, x2 := 0#24, y1 := 0#24, y2 := 0#24 } } ∧
    decode (writeWord 0x004#9 (0x01#8 ++ (x ++ note ++ x7 ++ vel))) = .ok (.noteOn x note x7 vel) ∧
    ∃ t, execAll [.noteOn x note x7 vel, .tick] s = .next t ∧ t.out = 0#24

/-- NOTE_OFF (R135): in ATTACK, DECAY and SUSTAIN, for the sounding note, the stage becomes RELEASE and `elapsed` 0, the
level being kept; in any other case nothing changes. -/
def Obligations.NoteOffReleasesTheSoundingNote : Prop :=
  ∀ (x : BitVec 9) (note : BitVec 7) (y : BitVec 8) (s : State),
    exec (.noteOff x note y) s =
      (if (s.voice.stage = .attack ∨ s.voice.stage = .decay ∨ s.voice.stage = .sustain) ∧ note = s.voice.note then
        .next { s with voice := { s.voice with stage := .release }, env := { s.env with elapsed := 0#32 } }
      else .next s) ∧
    decode (writeWord 0x004#9 (0x02#8 ++ (x ++ note ++ y))) = .ok (.noteOff x note y)

/-- VOICE_RESET (R136): IDLE at once, level, elapsed, phases and history 0; IRQ_PEND.IDLE is not set and everything else is
kept, OUT too until the next TICK, which outputs 0. -/
def Obligations.VoiceResetSilencesTheVoice : Prop :=
  ∀ (x : BitVec 24) (s : State),
    exec (.voiceReset x) s = .next { s with
      voice := { s.voice with stage := .idle }
      env := { level := 0#25, elapsed := 0#32 }
      osc := { a := 0#32, b := 0#32 }
      hist := { x1 := 0#24, x2 := 0#24, y1 := 0#24, y2 := 0#24 } } ∧
    decode (writeWord 0x004#9 (0x03#8 ++ x)) = .ok (.voiceReset x) ∧
    ∃ t, execAll [.voiceReset x, .tick] s = .next t ∧ t.out = 0#24

/-- RESET puts every state element at its value of the table of R193, from any state; the last clause gives the default of
each slot as R123 lists it. -/
def Obligations.ResetValuesOfEveryElement : Prop :=
  ∀ s : State, ∃ t, exec .reset s = .next t ∧
    t.voice = { stage := .idle, note := 0#7, vel := 0#7 } ∧
    t.flags = 0#4 ∧ t.irqEn = false ∧ t.irqPend = false ∧
    t.oscCtl = { waveA := .sine, waveB := .sine, freeRun := false } ∧ t.mode = .lowpass ∧
    t.lfo = { phase := 0#32, value := 0#25, shape := .sine } ∧
    t.tuning.a4Ftw.toNat = 39370534 ∧ t.tuning.ftwMin.toNat = 1789570 ∧
    t.envCtl.att.toNat = 2 ^ 23 ∧ t.envCtl.dec.toNat = 2 ^ 23 ∧ t.envCtl.sus.toNat = 2 ^ 23 ∧
    t.envCtl.rel.toNat = 2 ^ 23 ∧ t.envCtl.floor.toNat = 0 ∧
    t.counters = { scount := 0#64, shadow := 0#32, start := 0#64 } ∧ t.out = 0#24 ∧
    t.env = { level := 0#25, elapsed := 0#32 } ∧ t.osc = { a := 0#32, b := 0#32 } ∧ t.ftw = { a := 0#32, b := 0#32 } ∧
    t.coef = { b0 := 0#32, b1 := 0#32, b2 := 0#32, a1 := 0#32, a2 := 0#32 } ∧
    t.hist = { x1 := 0#24, x2 := 0#24, y1 := 0#24, y2 := 0#24 } ∧
    (∀ i, slotValue i (t.slots.get i).tgt = (slotRow i).default ∧ slotValue i (t.slots.get i).cur = (slotRow i).default ∧
      (t.slots.get i).shift = 5#5 ∧ (t.slots.get i).maxstep = 0#24) ∧
    ([Slot.bend, .detune, .mix, .cutoff, .res, .gain, .lfoRate, .depthPitch, .depthCut, .depthAmp].map fun i =>
      (i.index, (t.slots.get i).tgt.toNat, (t.slots.get i).cur.toNat)) =
      [(0, 0, 0), (1, 0, 0), (2, 0, 0), (3, 0x7C000000, 0x7C000000), (4, 0x0B50, 0x0B50), (5, 2 ^ 23, 2 ^ 23),
        (6, 447392, 447392), (7, 0, 0), (8, 0, 0), (9, 0, 0)]

/-! ## TICK -/

/-- TICK, its eight steps in the order of R138, with what each reads: the values the earlier steps left, the oscillators at
their phases and the output at the level of before this TICK (R140), and step 6 only when the stage is not IDLE. -/
def Obligations.TickRunsItsStepsInOrder : Prop :=
  encode .tick = 0x800000000000#48 ∧ ∀ s : State, ∃ t, exec .tick s = .next t ∧
    let cur : Slot → Int := fun i => slotValue i (t.slots.get i).cur
    let lv := lfoWave s.lfo.shape s.lfo.phase.toNat
    let pA := ((s.voice.note.toNat : Int) - 69) * 1024 + cur .bend + fdiv (lv * cur .depthPitch) (2 ^ 23)
    let pB := pA + cur .detune
    let g := gainEff (cur .gain) (cur .depthAmp) lv
    (∀ i, t.slots.get i = smoothSlot i (s.slots.get i)) ∧
    t.lfo = { s.lfo with
      value := BitVec.ofInt 25 lv, phase := BitVec.ofInt 32 (s.lfo.phase.toNat + cur .lfoRate) } ∧
    t.ftw = {
      a := BitVec.ofInt 32 (p2f s.tuning.a4Ftw.toNat s.tuning.ftwMin.toNat pA)
      b := BitVec.ofInt 32 (p2f s.tuning.a4Ftw.toNat s.tuning.ftwMin.toNat pB) } ∧
    t.coef = (coefValues s.mode (cutoffEff (cur .cutoff) (cur .depthCut) lv) (cur .res)).store ∧
    t.counters = { s.counters with scount := s.counters.scount + 1#64 } ∧
    (s.voice.stage = .idle →
      t = { s with slots := t.slots, lfo := t.lfo, ftw := t.ftw, coef := t.coef, counters := t.counters, out := 0#24 }) ∧
    (s.voice.stage ≠ .idle →
      let m := mix (osc s.oscCtl.waveA s.osc.a.toNat t.ftw.a.toNat) (osc s.oscCtl.waveB s.osc.b.toNat t.ftw.b.toNat)
        (cur .mix)
      let e := envStep s.envCtl s.voice.stage s.env.level.toNat s.env.elapsed.toNat
      t = { s with
        slots := t.slots, lfo := t.lfo, ftw := t.ftw, coef := t.coef, counters := t.counters
        osc := { a := s.osc.a + t.ftw.a, b := s.osc.b + t.ftw.b }
        hist := biquadHist t.coef s.hist m
        flags := if biquadSat t.coef s.hist m then s.flags ||| 0x2#4 else s.flags
        voice := { s.voice with stage := e.stage }
        env := { level := BitVec.ofInt 25 e.level, elapsed := BitVec.ofInt 32 e.elapsed }
        irqPend := s.irqPend || e.ended
        out := BitVec.ofInt 24 (amp (biquadOut t.coef s.hist m) s.env.level.toNat g s.voice.vel.toNat) })

/-- The smoothing step of R130, on every TICK and every slot: in a legal state CURRENT[i] moves by `sign(d) * m` with
`m = max(1, |d| >> SHIFT)`, at most MAXSTEP when that is not 0, and stays when `d = 0`; TARGET[i] and SMCFG[i] stay. -/
def Obligations.SmoothingStepOfEverySlot : Prop :=
  ∀ s : State, s.Legal → ∃ t, exec .tick s = .next t ∧ ∀ i,
    let r := s.slots.get i
    let d := slotValue i r.tgt - slotValue i r.cur
    let m0 := max 1 ((d.natAbs : Int) / 2 ^ r.shift.toNat)
    let m := if r.maxstep = 0#24 then m0 else min m0 r.maxstep.toNat
    slotValue i (t.slots.get i).cur = (if d = 0 then slotValue i r.cur else slotValue i r.cur + d.sign * m) ∧
    t.slots.get i = { r with cur := (t.slots.get i).cur }

/-- The properties of the smoother (R131), over TICKs of a legal state: no overshoot, the distance strictly decreasing to 0,
the step bounded by MAXSTEP, nothing moving at the target, and the target reached within |d| TICKs and kept. -/
def Obligations.SmootherConvergesWithoutOvershoot : Prop :=
  ∀ (s t : State) (i : Slot), s.Legal → exec .tick s = .next t →
    let tgt := slotValue i (s.slots.get i).tgt
    let cur := slotValue i (s.slots.get i).cur
    let cur' := slotValue i (t.slots.get i).cur
    (min cur tgt ≤ cur' ∧ cur' ≤ max cur tgt) ∧
    (cur ≠ tgt → (tgt - cur').natAbs < (tgt - cur).natAbs) ∧
    ((s.slots.get i).maxstep ≠ 0#24 → (cur' - cur).natAbs ≤ (s.slots.get i).maxstep.toNat) ∧
    (cur = tgt → t.slots.get i = s.slots.get i) ∧
    (∀ (n : Nat) (u : State), (tgt - cur).natAbs ≤ n → ticks n s = .next u → slotValue i (u.slots.get i).cur = tgt)

/-- The oscillator phases (R152): an active TICK adds the increments of this same TICK, modulo 2^32; a TICK while IDLE leaves
them; and no other operation changes them but NOTE_ON with FREE_RUN 0 and VOICE_RESET, to 0, and RESET. -/
def Obligations.PhasesAdvanceOnlyWhileActive : Prop :=
  ∀ (i : Instr) (s t : State), exec i s = .next t →
    (i = .tick → s.voice.stage ≠ .idle →
      t.osc.a.toNat = (s.osc.a.toNat + t.ftw.a.toNat) % 2 ^ 32 ∧
        t.osc.b.toNat = (s.osc.b.toNat + t.ftw.b.toNat) % 2 ^ 32) ∧
    (i = .tick → s.voice.stage = .idle → t.osc = s.osc) ∧
    (i ≠ .tick → t.osc ≠ s.osc →
      t.osc = { a := 0#32, b := 0#32 } ∧
        ((∃ x n x7 v, i = .noteOn x n x7 v ∧ s.oscCtl.freeRun = false) ∨ (∃ x, i = .voiceReset x) ∨ i = .reset))

/-- The LFO (R169): every TICK, active or idle, of a legal state takes the value of the phase before the advance, and
advances the phase by the smoothed rate modulo 2^32; nothing but TICK and RESET changes the phase. -/
def Obligations.LfoAdvancesEveryTick : Prop :=
  ∀ (i : Instr) (s t : State), s.Legal → exec i s = .next t →
    (i = .tick →
      t.lfo.value.toInt = lfoWave s.lfo.shape s.lfo.phase.toNat ∧
      (t.lfo.phase.toNat : Int) = (s.lfo.phase.toNat + slotValue .lfoRate (t.slots.get .lfoRate).cur) % 2 ^ 32) ∧
    (i ≠ .tick → i ≠ .reset → t.lfo.phase = s.lfo.phase)

/-- After a TICK of a legal state both increments lie in [FTW_MIN, 2^31 - 1], and stand for p2f of the oscillator's pitch
(spec/44_oscillator.md R149, R150, spec/40_bus_access.md R112). -/
def Obligations.IncrementsStayBelowNyquist : Prop :=
  ∀ s t : State, s.Legal → exec .tick s = .next t →
    let cur : Slot → Int := fun i => slotValue i (t.slots.get i).cur
    let pA := ((s.voice.note.toNat : Int) - 69) * 1024 + cur .bend +
      lfoWave s.lfo.shape s.lfo.phase.toNat * cur .depthPitch / 2 ^ 23
    (s.tuning.ftwMin.toNat ≤ t.ftw.a.toNat ∧ t.ftw.a.toNat ≤ 2 ^ 31 - 1) ∧
    (s.tuning.ftwMin.toNat ≤ t.ftw.b.toNat ∧ t.ftw.b.toNat ≤ 2 ^ 31 - 1) ∧
    (t.ftw.a.toNat : Int) = p2f s.tuning.a4Ftw.toNat s.tuning.ftwMin.toNat pA ∧
    (t.ftw.b.toNat : Int) = p2f s.tuning.a4Ftw.toNat s.tuning.ftwMin.toNat (pA + cur .detune) ∧
    within (-168960) pA 157696 ∧ within (-181248) (pA + cur .detune) 169984

/-- Pitch to increment (R150): within an octave the increment is that of A4 scaled by the EXP_ROM entry, an octave up
doubles it up to one unit where no clamp acts, both clamps are the stated ones, and a higher pitch never gives a smaller
increment. -/
def Obligations.PitchToIncrementIsMonotone : Prop :=
  (∀ a4 : Int, p2fRaw a4 0 = a4) ∧
  (∀ (a4 : Int) (r : Nat), r < 12288 → p2fRaw a4 r = a4 * expRom r / 2 ^ 30) ∧
  (∀ a4 p : Int, 1 ≤ a4 →
    2 * p2fRaw a4 p ≤ p2fRaw a4 (p + 12288) ∧ p2fRaw a4 (p + 12288) ≤ 2 * p2fRaw a4 p + 1) ∧
  (∀ a4 lo p : Int, lo ≤ 2 ^ 31 - 1 →
    p2f a4 lo p = max lo (min (p2fRaw a4 (max (-196608) (min p 196608))) (2 ^ 31 - 1))) ∧
  (∀ a4 lo p q : Int, 1 ≤ a4 → lo ≤ 2 ^ 31 - 1 → p ≤ q → p2f a4 lo p ≤ p2f a4 lo q)

/-- The coefficients after a TICK of a legal state are exactly those of the formulas of R161 to R165, held without
truncation; `sn`, `alpha` and `a0` lie where R161 says. -/
def Obligations.CoefficientsFollowTheFormulas : Prop :=
  ∀ s t : State, s.Legal → exec .tick s = .next t →
    let lv := lfoWave s.lfo.shape s.lfo.phase.toNat
    let c := max 0x00040000 (min (slotValue .cutoff (t.slots.get .cutoff).cur +
      lv * slotValue .depthCut (t.slots.get .depthCut).cur / 2 ^ 23) 0x7C000000)
    let q := slotValue .res (t.slots.get .res).cur
    let sn := sine c
    let cs := sine ((c + 2 ^ 30) % 2 ^ 32)
    let alpha := sn * 2 ^ 11 / q
    let a0 := 2 ^ 23 + alpha
    let k := t.coef
    (3217 ≤ sn ∧ sn ≤ 2 ^ 23 ∧ 100 ≤ alpha ∧ 2 ^ 23 < a0) ∧
    (s.mode ≠ .bypass → k.a1.toInt = -cs * 2 ^ 30 / a0 ∧ k.a2.toInt = (2 ^ 23 - alpha) * 2 ^ 29 / a0) ∧
    (s.mode = .lowpass →
      k.b0.toInt = (2 ^ 23 - cs) * 2 ^ 28 / a0 ∧ k.b1.toInt = 2 * k.b0.toInt ∧ k.b2.toInt = k.b0.toInt) ∧
    (s.mode = .highpass →
      k.b0.toInt = (2 ^ 23 + cs) * 2 ^ 28 / a0 ∧ k.b1.toInt = -2 * k.b0.toInt ∧ k.b2.toInt = k.b0.toInt) ∧
    (s.mode = .bandpass → k.b0.toInt = alpha * 2 ^ 29 / a0 ∧ k.b1.toInt = 0 ∧ k.b2.toInt = -k.b0.toInt) ∧
    (s.mode = .bypass → k.b0.toInt = 2 ^ 29 ∧ k.b1 = 0#32 ∧ k.b2 = 0#32 ∧ k.a1 = 0#32 ∧ k.a2 = 0#32)

/-- The filter is stable (R167): after any TICK of a legal state, whatever the mode, `|a2| < 2^29` and `|a1| < 2^29 + a2`,
so both poles lie strictly inside the unit circle. -/
def Obligations.FilterIsAlwaysStable : Prop :=
  ∀ s t : State, s.Legal → exec .tick s = .next t →
    |t.coef.a2.toInt| < 2 ^ 29 ∧ |t.coef.a1.toInt| < 2 ^ 29 + t.coef.a2.toInt

/-- The difference equation (R166) of an active TICK, with x0 the new x1, and the coefficients of this TICK: direct form I,
rounded half up, saturated, the saturated value fed back, SAT set exactly when it was saturated; and the history changes in
no other operation but NOTE_ON, VOICE_RESET and RESET, which clear it. -/
def Obligations.FilterFollowsTheDifferenceEquation : Prop :=
  ∀ (i : Instr) (s t : State), exec i s = .next t →
    (i = .tick → s.voice.stage ≠ .idle →
      let x0 := t.hist.x1.toInt
      let acc := t.coef.b0.toInt * x0 + t.coef.b1.toInt * s.hist.x1.toInt + t.coef.b2.toInt * s.hist.x2.toInt -
        t.coef.a1.toInt * s.hist.y1.toInt - t.coef.a2.toInt * s.hist.y2.toInt
      let yr := (acc + 2 ^ 28) / 2 ^ 29
      x0 = mix (osc s.oscCtl.waveA s.osc.a.toNat t.ftw.a.toNat) (osc s.oscCtl.waveB s.osc.b.toNat t.ftw.b.toNat)
        (slotValue .mix (t.slots.get .mix).cur) ∧
      t.hist.y1.toInt = max (-2 ^ 23) (min yr (2 ^ 23 - 1)) ∧ t.hist.x2 = s.hist.x1 ∧ t.hist.y2 = s.hist.y1 ∧
      t.flags = (if t.hist.y1.toInt = yr then s.flags else s.flags ||| 0x2#4)) ∧
    (i = .tick → s.voice.stage = .idle → t.hist = s.hist ∧ t.flags = s.flags) ∧
    (i ≠ .tick → t.hist ≠ s.hist →
      t.hist = { x1 := 0#24, x2 := 0#24, y1 := 0#24, y2 := 0#24 } ∧
        ((∃ x n x7 v, i = .noteOn x n x7 v) ∨ (∃ x, i = .voiceReset x) ∨ i = .reset))

/-- BYPASS passes the input exactly, whatever the history, and never saturates; the history still shifts (R165). -/
def Obligations.BypassPassesTheInputExactly : Prop :=
  ∀ s t : State, s.mode = .bypass → s.voice.stage ≠ .idle → exec .tick s = .next t →
    t.hist.y1 = t.hist.x1 ∧ t.hist.x2 = s.hist.x1 ∧ t.hist.y2 = s.hist.y1 ∧ t.flags = s.flags ∧
      t.coef = { b0 := 0x20000000#32, b1 := 0#32, b2 := 0#32, a1 := 0#32, a2 := 0#32 }

/-- The envelope step of a TICK, in each stage (R171 to R176): level, elapsed and the next stage, and IRQ_PEND.IDLE set
exactly by the end of a release. -/
def Obligations.EnvelopeStepsByStage : Prop :=
  ∀ s t : State, s.Legal → exec .tick s = .next t →
    let level := s.env.level.toNat
    let inc := min (s.env.elapsed.toNat + 1) (2 ^ 32 - 1)
    let c := s.envCtl
    (s.voice.stage = .idle → t.voice = s.voice ∧ t.env = s.env ∧ t.irqPend = s.irqPend) ∧
    (s.voice.stage = .attack → t.irqPend = s.irqPend ∧
      if level + c.att.toNat ≥ 2 ^ 23 then
        t.env.level.toNat = 2 ^ 23 ∧ t.voice.stage = .decay ∧ t.env.elapsed.toNat = 0
      else t.env.level.toNat = level + c.att.toNat ∧ t.voice.stage = .attack ∧ t.env.elapsed.toNat = inc) ∧
    (s.voice.stage = .decay → t.irqPend = s.irqPend ∧
      if (level : Int) - c.dec.toNat ≤ c.sus.toNat then
        t.env.level.toNat = c.sus.toNat ∧ t.voice.stage = .sustain ∧ t.env.elapsed.toNat = 0
      else t.env.level.toNat = level - c.dec.toNat ∧ t.voice.stage = .decay ∧ t.env.elapsed.toNat = inc) ∧
    (s.voice.stage = .sustain → t.irqPend = s.irqPend ∧
      t.env.level.toNat = c.sus.toNat ∧ t.voice.stage = .sustain ∧ t.env.elapsed.toNat = inc) ∧
    (s.voice.stage = .release →
      if level ≤ c.rel.toNat ∨ level ≤ c.floor.toNat then
        t.env.level.toNat = 0 ∧ t.voice.stage = .idle ∧ t.env.elapsed.toNat = 0 ∧ t.irqPend = true
      else t.env.level.toNat = level - c.rel.toNat ∧ t.voice.stage = .release ∧ t.env.elapsed.toNat = inc ∧
        t.irqPend = s.irqPend)

/-- From level 0 the attack takes `ceil(2^23 / att)` TICKs, the last of them reaching 2^23 (R173). -/
def Obligations.AttackTakesItsTicks : Prop :=
  ∀ s : State, s.Legal → s.voice.stage = .attack → s.env.level = 0#25 →
    let n := (2 ^ 23 + s.envCtl.att.toNat - 1) / s.envCtl.att.toNat
    (∀ k < n, ∃ t, ticks k s = .next t ∧ t.voice.stage = .attack ∧ t.env.level.toNat = k * s.envCtl.att.toNat) ∧
    ∃ t, ticks n s = .next t ∧ t.voice.stage = .decay ∧ t.env.level.toNat = 2 ^ 23 ∧ t.env.elapsed = 0#32

/-- From 2^23 the decay takes `max(1, ceil((2^23 - sus) / dec))` TICKs (R174). -/
def Obligations.DecayTakesItsTicks : Prop :=
  ∀ s : State, s.Legal → s.voice.stage = .decay → s.env.level.toNat = 2 ^ 23 →
    let n := max 1 ((2 ^ 23 - s.envCtl.sus.toNat + s.envCtl.dec.toNat - 1) / s.envCtl.dec.toNat)
    (∀ k < n, ∃ t, ticks k s = .next t ∧ t.voice.stage = .decay ∧ t.env.level.toNat = 2 ^ 23 - k * s.envCtl.dec.toNat) ∧
    ∃ t, ticks n s = .next t ∧ t.voice.stage = .sustain ∧ t.env.level.toNat = s.envCtl.sus.toNat ∧ t.env.elapsed = 0#32

/-- A release always ends: from level L0 it takes 1 TICK when `L0 <= max(rel, floor)` and otherwise
`1 + ceil((L0 - max(rel, floor)) / rel)`, the last of them setting IRQ_PEND.IDLE (R176). -/
def Obligations.ReleaseTakesItsTicks : Prop :=
  ∀ s : State, s.Legal → s.voice.stage = .release →
    let m := max s.envCtl.rel.toNat s.envCtl.floor.toNat
    let n := 1 + (s.env.level.toNat - m + s.envCtl.rel.toNat - 1) / s.envCtl.rel.toNat
    (∀ k < n, ∃ t, ticks k s = .next t ∧ t.voice.stage = .release ∧ t.irqPend = s.irqPend) ∧
    ∃ t, ticks n s = .next t ∧ t.voice.stage = .idle ∧ t.env = { level := 0#25, elapsed := 0#32 } ∧ t.irqPend = true

/-- The output sample of an active TICK of a legal state (R177): filter output times the level before the step, the
effective gain and `(vel + 1) / 128`, each product floored; it needs no saturation, and is exactly 0 when the level or the
gain is 0. -/
def Obligations.AmplitudePathIsExact : Prop :=
  ∀ s t : State, s.Legal → s.voice.stage ≠ .idle → exec .tick s = .next t →
    let lv := lfoWave s.lfo.shape s.lfo.phase.toNat
    let level := s.env.level.toNat
    let g := max 0 (min (slotValue .gain (t.slots.get .gain).cur +
      lv * slotValue .depthAmp (t.slots.get .depthAmp).cur / 2 ^ 23) (2 ^ 23))
    t.out.toInt = t.hist.y1.toInt * level / 2 ^ 23 * g / 2 ^ 23 * (s.voice.vel.toNat + 1) / 128 ∧
    (level = 0 ∨ g = 0 → t.out = 0#24)

/-- Silence while IDLE is exact and lasts: however many TICKs follow, the output is 0 and the phases, the filter history and
the envelope do not move, while the count goes on (spec/43_tick.md R139, spec/47_envelope.md R172, R178). -/
def Obligations.SilentWhileIdle : Prop :=
  ∀ (s : State) (n : Nat), s.voice.stage = .idle →
    ∃ t, ticks (n + 1) s = .next t ∧ t.out = 0#24 ∧ t.voice = s.voice ∧ t.osc = s.osc ∧ t.hist = s.hist ∧ t.env = s.env ∧
      t.flags = s.flags ∧ t.irqPend = s.irqPend ∧
      t.counters.scount.toNat = (s.counters.scount.toNat + n + 1) % 2 ^ 64

/-! ## The datapath's functions -/

/-- SINE_ROM has the properties that fix it (R144): the four corner values, both symmetries, strictly increasing on the
first quarter, the range, and the sum of the listed quarter. -/
def Obligations.SineRomHasItsProperties : Prop :=
  sineRom 0 = 0 ∧ sineRom 256 = 2 ^ 23 ∧ sineRom 512 = 0 ∧ sineRom 768 = -2 ^ 23 ∧
  (∀ k < 256, 1 ≤ k → sineRom (512 - k) = sineRom k) ∧ (∀ k < 512, sineRom (512 + k) = -sineRom k) ∧
  (∀ k < 256, sineRom k < sineRom (k + 1)) ∧ (∀ k < 1024, within (-2 ^ 23) (sineRom k) (2 ^ 23)) ∧
  ((List.range 257).map sineRom).sum = 1371320573

/-- EXP_ROM is the table R148 characterises: 2^30 at 0, the integer between the two powers elsewhere, in [2^30, 2^31) and
strictly increasing. -/
def Obligations.ExpRomIsTheCharacterisedTable : Prop :=
  expRom 0 = 2 ^ 30 ∧
  (∀ r, 1 ≤ r → r < 12288 →
    (2 * expRom r - 1) ^ 12288 < 2 ^ (12288 * 31 + r) ∧ 2 ^ (12288 * 31 + r) < (2 * expRom r + 1) ^ 12288) ∧
  (∀ r < 12288, 2 ^ 30 ≤ expRom r ∧ expRom r < 2 ^ 31) ∧
  (∀ r < 12287, expRom r < expRom (r + 1))

/-- The interpolated sine lies between the two entries it interpolates and meets the table at every entry (R146); the naive
triangle is odd about half a cycle, never steps by more than 1, and has its values at the corners (R147). -/
def Obligations.SineAndTriangleShapes : Prop :=
  (∀ p : Int, 0 ≤ p → p < 2 ^ 32 →
    let t0 := sineRom (p / 2 ^ 22).toNat
    let t1 := sineRom (((p / 2 ^ 22).toNat + 1) % 1024)
    min t0 t1 ≤ sine p ∧ sine p ≤ max t0 t1 ∧ within (-2 ^ 23) (sine p) (2 ^ 23)) ∧
  (∀ k : Nat, k < 1024 → sine (k * 2 ^ 22) = sineRom k) ∧ sine (2 ^ 30) = 2 ^ 23 ∧
  (∀ p : Int, 0 ≤ p → p < 2 ^ 32 →
    within (-2 ^ 23) (triN p) (2 ^ 23) ∧ triN ((p + 2 ^ 31) % 2 ^ 32) = -triN p ∧
      |triN ((p + 1) % 2 ^ 32) - triN p| ≤ 1) ∧
  triN 0 = 0 ∧ triN (2 ^ 30) = 2 ^ 23 ∧ triN (3 * 2 ^ 30) = -2 ^ 23 ∧ triN (2 ^ 32 - 1) = -1

/-- The four LFO shapes (R168): the value lies in [-2^23, 2^23] for every phase, is not saturated to S24, and starts where
the rule says. -/
def Obligations.LfoShapesStayInRange : Prop :=
  (∀ (g : LfoShape) (p : Int), 0 ≤ p → p < 2 ^ 32 → within (-2 ^ 23) (lfoWave g p) (2 ^ 23)) ∧
  (∀ p : Int, lfoWave .sine p = sine p ∧ lfoWave .triangle p = triN p ∧ lfoWave .rampUp p = p / 2 ^ 8 - 2 ^ 23 ∧
    lfoWave .rampDown p = 2 ^ 23 - p / 2 ^ 8) ∧
  lfoWave .sine 0 = 0 ∧ lfoWave .triangle 0 = 0 ∧ lfoWave .rampUp 0 = -2 ^ 23 ∧ lfoWave .rampDown 0 = 2 ^ 23 ∧
  lfoWave .sine (2 ^ 30) = 2 ^ 23

/-- The band-limiting residuals (R153, R154) over their whole domain: their ranges, the value at the discontinuity, a quarter (for the
ramp an eighth) of it half an increment away, 0 from one increment away on, and windows that never overlap.  The last clause says when the residual just before the
discontinuity is full: R153's remark gives it for every dt of at least 2, but R153's own formula gives it exactly above
2^16 (log entry 9). -/
def Obligations.BandLimitingResidualsStayInRange : Prop :=
  ∀ t dt : Int, 0 ≤ t → t < 2 ^ 32 → 1 ≤ dt → dt ≤ 2 ^ 31 - 1 →
    within (-2 ^ 23) (blep t dt) (2 ^ 23) ∧ within 0 (blamp t dt) (dt / 384) ∧
    ¬(t < dt ∧ 2 ^ 32 - t < dt) ∧ (dt ≤ t → dt ≤ 2 ^ 32 - t → blep t dt = 0 ∧ blamp t dt = 0) ∧
    blep 0 dt = -2 ^ 23 ∧ blamp 0 dt = dt / 384 ∧
    (dt % 2 = 0 → blep (dt / 2) dt = -2 ^ 21 ∧ blep (2 ^ 32 - dt / 2) dt = 2 ^ 21 ∧
      blamp (dt / 2) dt = dt / 3072 ∧ blamp (2 ^ 32 - dt / 2) dt = dt / 3072) ∧
    (blep (2 ^ 32 - 1) dt = 2 ^ 23 ↔ 2 ^ 16 < dt)

/-- The oscillator output (R155) is always a sample, is 0 at the saw's and the square's own discontinuities, is `dt / 384`
inside each of the triangle's corners, and is the naive waveform, its peak limited to S24, outside the windows of the
corrections; the mix (R157) gives A at 0, B at 2^23, and lies between the two in between. -/
def Obligations.OscillatorMidpointsAndMix : Prop :=
  (∀ (w : Waveform) (t dt : Int), within (-2 ^ 23) (osc w t dt) (2 ^ 23 - 1)) ∧
  (∀ dt : Int, 1 ≤ dt → dt ≤ 2 ^ 31 - 1 →
    osc .saw 0 dt = 0 ∧ osc .square 0 dt = 0 ∧ osc .square (2 ^ 31) dt = 0 ∧ osc .sine (2 ^ 30) dt = 2 ^ 23 - 1 ∧
    osc .triangle (2 ^ 30) dt = min (2 ^ 23 - dt / 384) (2 ^ 23 - 1) ∧
    osc .triangle (3 * 2 ^ 30) dt = -(2 ^ 23 - dt / 384)) ∧
  (∀ t dt : Int, 0 ≤ t → t < 2 ^ 32 → 1 ≤ dt → dt ≤ 2 ^ 31 - 1 →
    osc .sine t dt = min (sine t) (2 ^ 23 - 1) ∧
    (dt ≤ t → dt ≤ 2 ^ 32 - t → osc .saw t dt = t / 2 ^ 8 - 2 ^ 23) ∧
    (dt ≤ t → dt ≤ 2 ^ 31 - t → osc .square t dt = 2 ^ 23 - 1) ∧
    (dt ≤ t - 2 ^ 31 → dt ≤ 2 ^ 32 - t → osc .square t dt = -2 ^ 23) ∧
    (let u := (t - 2 ^ 30) % 2 ^ 32
     let v := (t - 3 * 2 ^ 30) % 2 ^ 32
     dt ≤ u → dt ≤ 2 ^ 32 - u → dt ≤ v → dt ≤ 2 ^ 32 - v → osc .triangle t dt = min (triN t) (2 ^ 23 - 1))) ∧
  (∀ a b : Int, within (-2 ^ 23) a (2 ^ 23 - 1) → within (-2 ^ 23) b (2 ^ 23 - 1) →
    mix a b 0 = a ∧ mix a b (2 ^ 23) = b ∧
      ∀ m : Int, 0 ≤ m → m ≤ 2 ^ 23 → min a b ≤ mix a b m ∧ mix a b m ≤ max a b)

/-! ## Rules of the whole machine -/

/-- Every element stays in its range of R16 through every step, and an idle envelope stays at level 0 with `elapsed` 0. -/
def Obligations.LegalStatesStayLegal : Prop :=
  ∀ s t : State, s.Legal → step s = .next t → t.Legal

/-- The state after RESET is legal. -/
def Obligations.ResetStateIsLegal : Prop := State.reset.Legal

/-- IRQ_PEND.IDLE (R181): set by the TICK that ends a release and by nothing else, VOICE_RESET and RESET included; cleared by
a WRITE of 1 to IRQ_PEND and by RESET and by nothing else, NOTE_ON included. -/
def Obligations.PendingBitSetAndClearedOnlyAsListed : Prop :=
  ∀ (i : Instr) (s t : State), exec i s = .next t →
    (s.irqPend = false → (t.irqPend = true ↔
      i = .tick ∧ s.voice.stage = .release ∧
        (s.env.level.toNat ≤ s.envCtl.rel.toNat ∨ s.env.level.toNat ≤ s.envCtl.floor.toNat))) ∧
    (s.irqPend = true → (t.irqPend = false ↔ i = .reset ∨ ∃ d : Word, i = .wrIrqPend d ∧ d.toNat % 2 = 1)) ∧
    irqLine t = (t.irqEn && t.irqPend)

/-- Only NOTE_ON leaves IDLE, over any sequence of operations; and the only ways into IDLE are VOICE_RESET, RESET and the
TICK that ends a release (R172). -/
def Obligations.OnlyNoteOnLeavesIdle : Prop :=
  (∀ (is : List Instr) (s t : State), s.voice.stage = .idle → execAll is s = .next t → t.voice.stage ≠ .idle →
    ∃ x n x7 v, Instr.noteOn x n x7 v ∈ is) ∧
  (∀ (i : Instr) (s t : State), s.voice.stage ≠ .idle → exec i s = .next t → t.voice.stage = .idle →
    (∃ x, i = .voiceReset x) ∨ i = .reset ∨ (i = .tick ∧ s.voice.stage = .release))

/-- A NOTE_ON followed by any number of TICKs alone never reaches RELEASE or IDLE (spec/47_envelope.md R178). -/
def Obligations.SustainsUntilReleased : Prop :=
  ∀ (n : Nat) (x : BitVec 9) (note : BitVec 7) (x7 : BitVec 1) (vel : BitVec 7) (s : State),
    ∃ t, execAll (.noteOn x note x7 vel :: List.replicate n .tick) s = .next t ∧
      (t.voice.stage = .attack ∨ t.voice.stage = .decay ∨ t.voice.stage = .sustain) ∧
      t.voice.note = note ∧ t.voice.vel = vel

/-- Which operations move a slot's smoothed value and the counters: CURRENT changes only by TICK and RESET, `scount` only by
TICK, which adds 1 modulo 2^64, and RESET, `start` only by NOTE_ON and RESET, and `shadow` only by a read of SCOUNT_LO and
RESET (spec/60_exceptions.md R185, R186, spec/10_state.md R38, R39). -/
def Obligations.CurrentAndCountersMoveOnlyAsListed : Prop :=
  ∀ (i : Instr) (s t : State), exec i s = .next t →
    (i ≠ .tick → i ≠ .reset → ∀ j, (t.slots.get j).cur = (s.slots.get j).cur) ∧
    (i = .tick → t.counters.scount.toNat = (s.counters.scount.toNat + 1) % 2 ^ 64) ∧
    (i ≠ .tick → i ≠ .reset → t.counters.scount = s.counters.scount) ∧
    (i ≠ .reset → (∀ x n x7 v, i ≠ .noteOn x n x7 v) → t.counters.start = s.counters.start) ∧
    (i ≠ .reset → i ≠ .rdScountLo → t.counters.shadow = s.counters.shadow)

/-- No flag stops, delays or alters any operation (R25): over any operations that do not read FLAGS, two runs that differ
only in FLAGS differ only in FLAGS. -/
def Obligations.FlagsAlterNoOperation : Prop :=
  ∀ (is : List Instr) (s t : State) (f : BitVec 4), .rdFlags ∉ is → execAll is s = .next t →
    ∃ g, execAll is { s with flags := f } = .next { t with flags := g }

/-- The instances' LFOs stay identical (R188): two blocks whose LFOs agree, given the same TICKs, RESETs, LFO_CTRL and
LFO_RATE writes in the same order, and any other operations each, end with LFOs that agree. -/
def Obligations.InstancesKeepIdenticalLfos : Prop :=
  ∀ (is js : List Instr) (s s' t t' : State), is.filter touchesLfo = js.filter touchesLfo → lfoView s = lfoView s' →
    execAll is s = .next t → execAll js s' = .next t' → lfoView t = lfoView t'

end
end

