-- ==== Sys2Proof/Laws/Arith.lean ====
section
/-! SUPPORT. The arithmetic primitives: ranges, bounds of floor division, and stored patterns read back. -/

namespace Sys2Proof.Machine

@[simp] theorem ftwMax_eq : Config.ftwMax = 2147483647 := rfl
@[simp] theorem cutMin_eq : Config.cutMin = 262144 := rfl
@[simp] theorem cutMax_eq : Config.cutMax = 2080374784 := rfl
@[simp] theorem pLim_eq : Config.pLim = 196608 := rfl

theorem le_clamp {v lo hi : Int} (h : lo ≤ hi) : lo ≤ clamp v lo hi := by unfold clamp; split <;> [omega; split <;> omega]

theorem clamp_le {v lo hi : Int} (h : lo ≤ hi) : clamp v lo hi ≤ hi := by unfold clamp; split <;> [omega; split <;> omega]

theorem clamp_eq_self {v lo hi : Int} (hl : lo ≤ v) (hh : v ≤ hi) : clamp v lo hi = v := by
  unfold clamp; split <;> [omega; split <;> omega]

theorem clamp_eq_self_iff {v lo hi : Int} (h : lo ≤ hi) : clamp v lo hi = v ↔ lo ≤ v ∧ v ≤ hi := by
  constructor
  · intro e; rw [← e]; exact ⟨le_clamp h, clamp_le h⟩
  · exact fun ⟨a, b⟩ => clamp_eq_self a b

theorem clamp_mono {v w lo hi : Int} (h : v ≤ w) : clamp v lo hi ≤ clamp w lo hi ∨ hi < lo := by
  unfold clamp; split <;> split <;> (try split) <;> (try split) <;> omega

theorem sat24_range (v : Int) : -2 ^ 23 ≤ sat24 v ∧ sat24 v ≤ 2 ^ 23 - 1 :=
  ⟨le_clamp (by norm_num), clamp_le (by norm_num)⟩

theorem sat24_eq_self {v : Int} (hl : -2 ^ 23 ≤ v) (hh : v ≤ 2 ^ 23 - 1) : sat24 v = v := clamp_eq_self hl hh

theorem wrap32_range (v : Int) : 0 ≤ wrap32 v ∧ wrap32 v < 2 ^ 32 := by unfold wrap32; omega

theorem wrap32_eq_self {v : Int} (hl : 0 ≤ v) (hh : v < 2 ^ 32) : wrap32 v = v := by unfold wrap32; omega

/-! Floor division by a positive divisor. -/

theorem fdiv_le_iff {n d q : Int} (hd : 0 < d) : q ≤ fdiv n d ↔ q * d ≤ n := Int.le_ediv_iff_mul_le hd

theorem fdiv_lt_iff {n d q : Int} (hd : 0 < d) : fdiv n d < q ↔ n < q * d := Int.ediv_lt_iff_lt_mul hd

theorem fdiv_mul_le {n d : Int} (hd : 0 < d) : fdiv n d * d ≤ n := (fdiv_le_iff hd).1 le_rfl

theorem lt_fdiv_mul {n d : Int} (hd : 0 < d) : n < (fdiv n d + 1) * d := (fdiv_lt_iff hd).1 (by omega)

theorem fdiv_mono {n m d : Int} (hd : 0 < d) (h : n ≤ m) : fdiv n d ≤ fdiv m d := Int.ediv_le_ediv hd h

theorem fdiv_nonneg {n d : Int} (hn : 0 ≤ n) (hd : 0 < d) : 0 ≤ fdiv n d := Int.ediv_nonneg hn hd.le

@[simp] theorem fdiv_zero_left (d : Int) : fdiv 0 d = 0 := Int.zero_ediv d

theorem fdiv_mul_self {v d : Int} (hd : d ≠ 0) : fdiv (v * d) d = v := Int.mul_ediv_cancel v hd

/-- `fdiv(x * g, d)` for `0 <= g <= d` lies in any interval round 0 that holds x. -/
theorem fdiv_scale_range {x g d lo hi : Int} (hd : 0 < d) (hg0 : 0 ≤ g) (hgd : g ≤ d) (hlo : lo ≤ x) (hhi : x ≤ hi)
    (hl0 : lo ≤ 0) (hh0 : 0 ≤ hi) : lo ≤ fdiv (x * g) d ∧ fdiv (x * g) d ≤ hi := by
  constructor
  · rw [fdiv_le_iff hd]; nlinarith
  · have : fdiv (x * g) d < hi + 1 := by rw [fdiv_lt_iff hd]; nlinarith
    omega

/-! Stored patterns. -/

theorem toInt_ofInt_of_range {n : Nat} (hn : 0 < n) {v : Int} (hl : -2 ^ (n - 1) ≤ v) (hh : v < 2 ^ (n - 1)) :
    (BitVec.ofInt n v).toInt = v := by
  rw [BitVec.toInt_ofInt]
  obtain ⟨m, rfl⟩ : ∃ m, n = m + 1 := ⟨n - 1, by omega⟩
  simp only [Nat.add_sub_cancel] at hl hh
  apply Int.bmod_eq_of_le
  · rw [Nat.pow_succ]; push_cast; omega
  · rw [Nat.pow_succ]; push_cast; omega

theorem toNat_ofInt_of_range {n : Nat} {v : Int} (hl : 0 ≤ v) (hh : v < 2 ^ n) : ((BitVec.ofInt n v).toNat : Int) = v := by
  rw [BitVec.toNat_ofInt]
  have : (0 : Int) ≤ v % ((2 ^ n : Nat) : Int) := Int.emod_nonneg _ (by positivity)
  rw [Int.toNat_of_nonneg this]
  exact Int.emod_eq_of_lt hl (by push_cast; exact hh)

theorem u32_toNat {v : Int} (hl : 0 ≤ v) (hh : v < 2 ^ 32) : ((u32 v).toNat : Int) = v := toNat_ofInt_of_range hl hh

theorem u32_toInt {v : Int} (hl : -2 ^ 31 ≤ v) (hh : v < 2 ^ 31) : (u32 v).toInt = v :=
  toInt_ofInt_of_range (by norm_num) hl hh

theorem s24_toInt {v : Int} (hl : -2 ^ 23 ≤ v) (hh : v ≤ 2 ^ 23 - 1) : (BitVec.ofInt 24 v).toInt = v :=
  toInt_ofInt_of_range (by norm_num) hl (by norm_num; omega)

theorem s24_range (w : BitVec 24) : -2 ^ 23 ≤ w.toInt ∧ w.toInt ≤ 2 ^ 23 - 1 := by
  have h1 := w.toInt_lt; have h2 := w.le_toInt; norm_num at *; omega

theorem s32_eq_toInt (w : Word) : s32 w = w.toInt := by
  unfold s32; rw [BitVec.toInt_eq_toNat_cond]; norm_num; split <;> split <;> omega

end Sys2Proof.Machine
end

