-- ==== Sys2Proof/Laws/Decode.lean ====
section
/-! SUPPORT. The fields of a transaction word, and what the decoder answers for each kind of word. -/

namespace Sys2Proof

theorem toNat_mkWord (k : BitVec 2) (a : Addr) (d : Word) :
    (mkWord k a d).toNat = k.toNat * 2 ^ 46 + a.toNat * 2 ^ 32 + d.toNat := by
  have hk := k.isLt; have ha := a.isLt; have hd := d.isLt
  simp only [mkWord, BitVec.toNat_append, Nat.shiftLeft_eq]
  rw [Nat.mul_comm k.toNat, ← Nat.two_pow_add_eq_or_of_lt (by simp)]
  rw [Nat.mul_comm _ (2 ^ 9), ← Nat.two_pow_add_eq_or_of_lt ha]
  rw [Nat.mul_comm _ (2 ^ 32), ← Nat.two_pow_add_eq_or_of_lt hd]
  simp; omega

@[simp] theorem kindOf_mkWord (k : BitVec 2) (a : Addr) (d : Word) : kindOf (mkWord k a d) = k := by
  have hk := k.isLt; have ha := a.isLt; have hd := d.isLt
  apply BitVec.eq_of_toNat_eq
  simp only [kindOf, BitVec.extractLsb'_toNat, toNat_mkWord, Nat.shiftRight_eq_div_pow]; omega

@[simp] theorem rsvOf_mkWord (k : BitVec 2) (a : Addr) (d : Word) : rsvOf (mkWord k a d) = 0#5 := by
  have hk := k.isLt; have ha := a.isLt; have hd := d.isLt
  apply BitVec.eq_of_toNat_eq
  simp only [rsvOf, BitVec.extractLsb'_toNat, toNat_mkWord, Nat.shiftRight_eq_div_pow]; simp; omega

@[simp] theorem addrOf_mkWord (k : BitVec 2) (a : Addr) (d : Word) : addrOf (mkWord k a d) = a := by
  have hk := k.isLt; have ha := a.isLt; have hd := d.isLt
  apply BitVec.eq_of_toNat_eq
  simp only [addrOf, BitVec.extractLsb'_toNat, toNat_mkWord, Nat.shiftRight_eq_div_pow]; omega

@[simp] theorem dataOf_mkWord (k : BitVec 2) (a : Addr) (d : Word) : dataOf (mkWord k a d) = d := by
  have hk := k.isLt; have ha := a.isLt; have hd := d.isLt
  apply BitVec.eq_of_toNat_eq
  simp only [dataOf, BitVec.extractLsb'_toNat, toNat_mkWord, Nat.shiftRight_eq_div_pow]; omega

/-- A word with RSV = 0 is made of its fields. -/
theorem mkWord_fields {t : TWord} (h : rsvOf t = 0#5) : mkWord (kindOf t) (addrOf t) (dataOf t) = t := by
  have ht := t.isLt
  apply BitVec.eq_of_toNat_eq
  have h' := congrArg BitVec.toNat h
  simp only [toNat_mkWord, kindOf, addrOf, dataOf, rsvOf, BitVec.extractLsb'_toNat, Nat.shiftRight_eq_div_pow] at *
  simp at h'; omega

@[simp] theorem decode_readWord (a : Addr) : decode (readWord a) = .ok (decodeRead a) := by simp [decode, readWord]

@[simp] theorem decode_writeWord (a : Addr) (d : Word) : decode (writeWord a d) = .ok (decodeWrite a d) := by
  simp [decode, writeWord]

@[simp] theorem decode_tickWord : decode (mkWord 2#2 0#9 0#32) = .ok .tick := by simp [decode]

@[simp] theorem decode_resetWord : decode (mkWord 3#2 0#9 0#32) = .ok .reset := by simp [decode]

/-! The fields of a CMD data word. -/

@[simp] theorem command_op (op : BitVec 8) (x : BitVec 24) : (op ++ x : BitVec 32).extractLsb' 24 8 = op := by
  have h1 := op.isLt; have h2 := x.isLt
  apply BitVec.eq_of_toNat_eq
  simp only [BitVec.extractLsb'_toNat, BitVec.toNat_append, Nat.shiftLeft_eq, Nat.shiftRight_eq_div_pow]
  rw [Nat.mul_comm, ← Nat.two_pow_add_eq_or_of_lt h2]; omega

@[simp] theorem command_x (op : BitVec 8) (x : BitVec 24) : (op ++ x : BitVec 32).extractLsb' 0 24 = x := by
  have h1 := op.isLt; have h2 := x.isLt
  apply BitVec.eq_of_toNat_eq
  simp only [BitVec.extractLsb'_toNat, BitVec.toNat_append, Nat.shiftLeft_eq, Nat.shiftRight_eq_div_pow]
  rw [Nat.mul_comm, ← Nat.two_pow_add_eq_or_of_lt h2]; omega

/-- A field of DATA[23:0] does not see the opcode. -/
theorem command_field (op : BitVec 8) (x : BitVec 24) {lo n : Nat} (h : lo + n ≤ 24) :
    (op ++ x : BitVec 32).extractLsb' lo n = x.extractLsb' lo n := by
  apply BitVec.eq_of_getLsbD_eq
  intro i hi
  simp only [BitVec.getLsbD_extractLsb', BitVec.getLsbD_append]
  simp [hi, show lo + i < 24 by omega]

/-- DATA is its opcode and the rest. -/
theorem command_split (d : Word) : (d.extractLsb' 24 8 ++ d.extractLsb' 0 24 : BitVec 32) = d := by
  have h := d.isLt
  apply BitVec.eq_of_toNat_eq
  simp only [BitVec.toNat_append, BitVec.extractLsb'_toNat, Nat.shiftLeft_eq, Nat.shiftRight_eq_div_pow]
  rw [Nat.mul_comm, ← Nat.two_pow_add_eq_or_of_lt (Nat.mod_lt _ (by norm_num))]; omega

theorem decode_commandWord (op : BitVec 8) (x : BitVec 24) :
    decode (commandWord op x) = .ok (decodeCommand (op ++ x)) := by
  simp [commandWord, decodeWrite]

theorem opIn_iff {lo hi : Nat} {op : BitVec 8} : opIn lo hi op = true ↔ lo ≤ op.toNat ∧ op.toNat ≤ hi := by
  simp [opIn]

theorem decodeCommand_nop (x : BitVec 24) : decodeCommand (0x00#8 ++ x) = .nop x := by
  simp only [decodeCommand, command_op, command_x]; rfl

theorem decodeCommand_voiceReset (x : BitVec 24) : decodeCommand (0x03#8 ++ x) = .voiceReset x := by
  simp only [decodeCommand, command_op, command_x]; rfl

/-- A reserved opcode, 0x04 and above, by its row. -/
theorem decodeCommand_reserved {op : BitVec 8} (x : BitVec 24) (h : 0x04 ≤ op.toNat) :
    decodeCommand (op ++ x) =
      if op.toNat ≤ 0x07 then .cmdReserved04To07 op x else if op.toNat ≤ 0x0F then .cmdReserved08To0F op x
      else if op.toNat ≤ 0x1F then .cmdReserved10To1F op x else if op.toNat ≤ 0x3F then .cmdReserved20To3F op x
      else if op.toNat ≤ 0x7F then .cmdReserved40To7F op x else .cmdReserved80ToFF op x := by
  have hne : ∀ k : BitVec 8, k.toNat < 4 → op ≠ k := fun k hk e => by subst e; omega
  simp [decodeCommand, hne 0#8 (by decide), hne 1#8 (by decide), hne 2#8 (by decide), hne 3#8 (by decide)]

theorem decodeCommand_cmdReserved04To07 {op : BitVec 8} (x : BitVec 24) (h : 0x04 ≤ op.toNat ∧ op.toNat ≤ 0x07) :
    decodeCommand (op ++ x) = .cmdReserved04To07 op x := by
  rw [decodeCommand_reserved x (by omega), if_pos h.2]

theorem decodeCommand_cmdReserved08To0F {op : BitVec 8} (x : BitVec 24) (h : 0x08 ≤ op.toNat ∧ op.toNat ≤ 0x0F) :
    decodeCommand (op ++ x) = .cmdReserved08To0F op x := by
  rw [decodeCommand_reserved x (by omega), if_neg (by omega), if_pos h.2]

theorem decodeCommand_cmdReserved10To1F {op : BitVec 8} (x : BitVec 24) (h : 0x10 ≤ op.toNat ∧ op.toNat ≤ 0x1F) :
    decodeCommand (op ++ x) = .cmdReserved10To1F op x := by
  rw [decodeCommand_reserved x (by omega), if_neg (by omega), if_neg (by omega), if_pos h.2]

theorem decodeCommand_cmdReserved20To3F {op : BitVec 8} (x : BitVec 24) (h : 0x20 ≤ op.toNat ∧ op.toNat ≤ 0x3F) :
    decodeCommand (op ++ x) = .cmdReserved20To3F op x := by
  rw [decodeCommand_reserved x (by omega), if_neg (by omega), if_neg (by omega), if_neg (by omega), if_pos h.2]

theorem decodeCommand_cmdReserved40To7F {op : BitVec 8} (x : BitVec 24) (h : 0x40 ≤ op.toNat ∧ op.toNat ≤ 0x7F) :
    decodeCommand (op ++ x) = .cmdReserved40To7F op x := by
  rw [decodeCommand_reserved x (by omega), if_neg (by omega), if_neg (by omega), if_neg (by omega), if_neg (by omega), if_pos h.2]

theorem decodeCommand_cmdReserved80ToFF {op : BitVec 8} (x : BitVec 24) (h : 0x80 ≤ op.toNat ∧ op.toNat ≤ 0xFF) :
    decodeCommand (op ++ x) = .cmdReserved80ToFF op x := by
  rw [decodeCommand_reserved x (by omega), if_neg (by omega), if_neg (by omega), if_neg (by omega), if_neg (by omega), if_neg (by omega)]

/-- An unmapped address is a bad READ: the regions of R54 against the rows of R21, address by address. -/
theorem decodeRead_unmapped : ∀ a : Addr, a.mapped = false → decodeRead a = .rdBad a := by decide +kernel

/-- An address of no writable register is a bad WRITE. -/
theorem decodeWrite_unwritable (a : Addr) (d : Word) (h : a.writable = false) : decodeWrite a d = .wrBad a d := by
  have key : ∀ a : Addr, a.writable = false → a ≠ 0x004#9 ∧ (rowFor writeRows a.toNat).isNone = true := by
    decide +kernel
  obtain ⟨h4, hn⟩ := key a h
  simp [decodeWrite, h4, Option.isNone_iff_eq_none.1 hn]

end Sys2Proof
end

