-- ==== Sys2Proof/Laws/State.lean ====
section
/-! SUPPORT. One lemma for each field of State and each update, true by rfl: what an update writes and what it leaves. -/

namespace Sys2Proof.Machine.State

variable (s : State)

@[simp] theorem setVoice_voice (v) : (s.setVoice v).voice = v := rfl
@[simp] theorem setVoice_osc (v) : (s.setVoice v).osc = s.osc := rfl
@[simp] theorem setVoice_ftw (v) : (s.setVoice v).ftw = s.ftw := rfl
@[simp] theorem setVoice_oscCtl (v) : (s.setVoice v).oscCtl = s.oscCtl := rfl
@[simp] theorem setVoice_tuning (v) : (s.setVoice v).tuning = s.tuning := rfl
@[simp] theorem setVoice_mode (v) : (s.setVoice v).mode = s.mode := rfl
@[simp] theorem setVoice_coef (v) : (s.setVoice v).coef = s.coef := rfl
@[simp] theorem setVoice_hist (v) : (s.setVoice v).hist = s.hist := rfl
@[simp] theorem setVoice_lfo (v) : (s.setVoice v).lfo = s.lfo := rfl
@[simp] theorem setVoice_env (v) : (s.setVoice v).env = s.env := rfl
@[simp] theorem setVoice_envCtl (v) : (s.setVoice v).envCtl = s.envCtl := rfl
@[simp] theorem setVoice_slots (v) : (s.setVoice v).slots = s.slots := rfl
@[simp] theorem setVoice_counters (v) : (s.setVoice v).counters = s.counters := rfl
@[simp] theorem setVoice_out (v) : (s.setVoice v).out = s.out := rfl
@[simp] theorem setVoice_flags (v) : (s.setVoice v).flags = s.flags := rfl
@[simp] theorem setVoice_irqEn (v) : (s.setVoice v).irqEn = s.irqEn := rfl
@[simp] theorem setVoice_irqPend (v) : (s.setVoice v).irqPend = s.irqPend := rfl
@[simp] theorem setVoice_rdata (v) : (s.setVoice v).rdata = s.rdata := rfl
@[simp] theorem setVoice_ops (v) : (s.setVoice v).ops = s.ops := rfl

@[simp] theorem setOsc_voice (v) : (s.setOsc v).voice = s.voice := rfl
@[simp] theorem setOsc_osc (v) : (s.setOsc v).osc = v := rfl
@[simp] theorem setOsc_ftw (v) : (s.setOsc v).ftw = s.ftw := rfl
@[simp] theorem setOsc_oscCtl (v) : (s.setOsc v).oscCtl = s.oscCtl := rfl
@[simp] theorem setOsc_tuning (v) : (s.setOsc v).tuning = s.tuning := rfl
@[simp] theorem setOsc_mode (v) : (s.setOsc v).mode = s.mode := rfl
@[simp] theorem setOsc_coef (v) : (s.setOsc v).coef = s.coef := rfl
@[simp] theorem setOsc_hist (v) : (s.setOsc v).hist = s.hist := rfl
@[simp] theorem setOsc_lfo (v) : (s.setOsc v).lfo = s.lfo := rfl
@[simp] theorem setOsc_env (v) : (s.setOsc v).env = s.env := rfl
@[simp] theorem setOsc_envCtl (v) : (s.setOsc v).envCtl = s.envCtl := rfl
@[simp] theorem setOsc_slots (v) : (s.setOsc v).slots = s.slots := rfl
@[simp] theorem setOsc_counters (v) : (s.setOsc v).counters = s.counters := rfl
@[simp] theorem setOsc_out (v) : (s.setOsc v).out = s.out := rfl
@[simp] theorem setOsc_flags (v) : (s.setOsc v).flags = s.flags := rfl
@[simp] theorem setOsc_irqEn (v) : (s.setOsc v).irqEn = s.irqEn := rfl
@[simp] theorem setOsc_irqPend (v) : (s.setOsc v).irqPend = s.irqPend := rfl
@[simp] theorem setOsc_rdata (v) : (s.setOsc v).rdata = s.rdata := rfl
@[simp] theorem setOsc_ops (v) : (s.setOsc v).ops = s.ops := rfl

@[simp] theorem setFtw_voice (v) : (s.setFtw v).voice = s.voice := rfl
@[simp] theorem setFtw_osc (v) : (s.setFtw v).osc = s.osc := rfl
@[simp] theorem setFtw_ftw (v) : (s.setFtw v).ftw = v := rfl
@[simp] theorem setFtw_oscCtl (v) : (s.setFtw v).oscCtl = s.oscCtl := rfl
@[simp] theorem setFtw_tuning (v) : (s.setFtw v).tuning = s.tuning := rfl
@[simp] theorem setFtw_mode (v) : (s.setFtw v).mode = s.mode := rfl
@[simp] theorem setFtw_coef (v) : (s.setFtw v).coef = s.coef := rfl
@[simp] theorem setFtw_hist (v) : (s.setFtw v).hist = s.hist := rfl
@[simp] theorem setFtw_lfo (v) : (s.setFtw v).lfo = s.lfo := rfl
@[simp] theorem setFtw_env (v) : (s.setFtw v).env = s.env := rfl
@[simp] theorem setFtw_envCtl (v) : (s.setFtw v).envCtl = s.envCtl := rfl
@[simp] theorem setFtw_slots (v) : (s.setFtw v).slots = s.slots := rfl
@[simp] theorem setFtw_counters (v) : (s.setFtw v).counters = s.counters := rfl
@[simp] theorem setFtw_out (v) : (s.setFtw v).out = s.out := rfl
@[simp] theorem setFtw_flags (v) : (s.setFtw v).flags = s.flags := rfl
@[simp] theorem setFtw_irqEn (v) : (s.setFtw v).irqEn = s.irqEn := rfl
@[simp] theorem setFtw_irqPend (v) : (s.setFtw v).irqPend = s.irqPend := rfl
@[simp] theorem setFtw_rdata (v) : (s.setFtw v).rdata = s.rdata := rfl
@[simp] theorem setFtw_ops (v) : (s.setFtw v).ops = s.ops := rfl

@[simp] theorem setOscCtl_voice (v) : (s.setOscCtl v).voice = s.voice := rfl
@[simp] theorem setOscCtl_osc (v) : (s.setOscCtl v).osc = s.osc := rfl
@[simp] theorem setOscCtl_ftw (v) : (s.setOscCtl v).ftw = s.ftw := rfl
@[simp] theorem setOscCtl_oscCtl (v) : (s.setOscCtl v).oscCtl = v := rfl
@[simp] theorem setOscCtl_tuning (v) : (s.setOscCtl v).tuning = s.tuning := rfl
@[simp] theorem setOscCtl_mode (v) : (s.setOscCtl v).mode = s.mode := rfl
@[simp] theorem setOscCtl_coef (v) : (s.setOscCtl v).coef = s.coef := rfl
@[simp] theorem setOscCtl_hist (v) : (s.setOscCtl v).hist = s.hist := rfl
@[simp] theorem setOscCtl_lfo (v) : (s.setOscCtl v).lfo = s.lfo := rfl
@[simp] theorem setOscCtl_env (v) : (s.setOscCtl v).env = s.env := rfl
@[simp] theorem setOscCtl_envCtl (v) : (s.setOscCtl v).envCtl = s.envCtl := rfl
@[simp] theorem setOscCtl_slots (v) : (s.setOscCtl v).slots = s.slots := rfl
@[simp] theorem setOscCtl_counters (v) : (s.setOscCtl v).counters = s.counters := rfl
@[simp] theorem setOscCtl_out (v) : (s.setOscCtl v).out = s.out := rfl
@[simp] theorem setOscCtl_flags (v) : (s.setOscCtl v).flags = s.flags := rfl
@[simp] theorem setOscCtl_irqEn (v) : (s.setOscCtl v).irqEn = s.irqEn := rfl
@[simp] theorem setOscCtl_irqPend (v) : (s.setOscCtl v).irqPend = s.irqPend := rfl
@[simp] theorem setOscCtl_rdata (v) : (s.setOscCtl v).rdata = s.rdata := rfl
@[simp] theorem setOscCtl_ops (v) : (s.setOscCtl v).ops = s.ops := rfl

@[simp] theorem setTuning_voice (v) : (s.setTuning v).voice = s.voice := rfl
@[simp] theorem setTuning_osc (v) : (s.setTuning v).osc = s.osc := rfl
@[simp] theorem setTuning_ftw (v) : (s.setTuning v).ftw = s.ftw := rfl
@[simp] theorem setTuning_oscCtl (v) : (s.setTuning v).oscCtl = s.oscCtl := rfl
@[simp] theorem setTuning_tuning (v) : (s.setTuning v).tuning = v := rfl
@[simp] theorem setTuning_mode (v) : (s.setTuning v).mode = s.mode := rfl
@[simp] theorem setTuning_coef (v) : (s.setTuning v).coef = s.coef := rfl
@[simp] theorem setTuning_hist (v) : (s.setTuning v).hist = s.hist := rfl
@[simp] theorem setTuning_lfo (v) : (s.setTuning v).lfo = s.lfo := rfl
@[simp] theorem setTuning_env (v) : (s.setTuning v).env = s.env := rfl
@[simp] theorem setTuning_envCtl (v) : (s.setTuning v).envCtl = s.envCtl := rfl
@[simp] theorem setTuning_slots (v) : (s.setTuning v).slots = s.slots := rfl
@[simp] theorem setTuning_counters (v) : (s.setTuning v).counters = s.counters := rfl
@[simp] theorem setTuning_out (v) : (s.setTuning v).out = s.out := rfl
@[simp] theorem setTuning_flags (v) : (s.setTuning v).flags = s.flags := rfl
@[simp] theorem setTuning_irqEn (v) : (s.setTuning v).irqEn = s.irqEn := rfl
@[simp] theorem setTuning_irqPend (v) : (s.setTuning v).irqPend = s.irqPend := rfl
@[simp] theorem setTuning_rdata (v) : (s.setTuning v).rdata = s.rdata := rfl
@[simp] theorem setTuning_ops (v) : (s.setTuning v).ops = s.ops := rfl

@[simp] theorem setMode_voice (v) : (s.setMode v).voice = s.voice := rfl
@[simp] theorem setMode_osc (v) : (s.setMode v).osc = s.osc := rfl
@[simp] theorem setMode_ftw (v) : (s.setMode v).ftw = s.ftw := rfl
@[simp] theorem setMode_oscCtl (v) : (s.setMode v).oscCtl = s.oscCtl := rfl
@[simp] theorem setMode_tuning (v) : (s.setMode v).tuning = s.tuning := rfl
@[simp] theorem setMode_mode (v) : (s.setMode v).mode = v := rfl
@[simp] theorem setMode_coef (v) : (s.setMode v).coef = s.coef := rfl
@[simp] theorem setMode_hist (v) : (s.setMode v).hist = s.hist := rfl
@[simp] theorem setMode_lfo (v) : (s.setMode v).lfo = s.lfo := rfl
@[simp] theorem setMode_env (v) : (s.setMode v).env = s.env := rfl
@[simp] theorem setMode_envCtl (v) : (s.setMode v).envCtl = s.envCtl := rfl
@[simp] theorem setMode_slots (v) : (s.setMode v).slots = s.slots := rfl
@[simp] theorem setMode_counters (v) : (s.setMode v).counters = s.counters := rfl
@[simp] theorem setMode_out (v) : (s.setMode v).out = s.out := rfl
@[simp] theorem setMode_flags (v) : (s.setMode v).flags = s.flags := rfl
@[simp] theorem setMode_irqEn (v) : (s.setMode v).irqEn = s.irqEn := rfl
@[simp] theorem setMode_irqPend (v) : (s.setMode v).irqPend = s.irqPend := rfl
@[simp] theorem setMode_rdata (v) : (s.setMode v).rdata = s.rdata := rfl
@[simp] theorem setMode_ops (v) : (s.setMode v).ops = s.ops := rfl

@[simp] theorem setCoef_voice (v) : (s.setCoef v).voice = s.voice := rfl
@[simp] theorem setCoef_osc (v) : (s.setCoef v).osc = s.osc := rfl
@[simp] theorem setCoef_ftw (v) : (s.setCoef v).ftw = s.ftw := rfl
@[simp] theorem setCoef_oscCtl (v) : (s.setCoef v).oscCtl = s.oscCtl := rfl
@[simp] theorem setCoef_tuning (v) : (s.setCoef v).tuning = s.tuning := rfl
@[simp] theorem setCoef_mode (v) : (s.setCoef v).mode = s.mode := rfl
@[simp] theorem setCoef_coef (v) : (s.setCoef v).coef = v := rfl
@[simp] theorem setCoef_hist (v) : (s.setCoef v).hist = s.hist := rfl
@[simp] theorem setCoef_lfo (v) : (s.setCoef v).lfo = s.lfo := rfl
@[simp] theorem setCoef_env (v) : (s.setCoef v).env = s.env := rfl
@[simp] theorem setCoef_envCtl (v) : (s.setCoef v).envCtl = s.envCtl := rfl
@[simp] theorem setCoef_slots (v) : (s.setCoef v).slots = s.slots := rfl
@[simp] theorem setCoef_counters (v) : (s.setCoef v).counters = s.counters := rfl
@[simp] theorem setCoef_out (v) : (s.setCoef v).out = s.out := rfl
@[simp] theorem setCoef_flags (v) : (s.setCoef v).flags = s.flags := rfl
@[simp] theorem setCoef_irqEn (v) : (s.setCoef v).irqEn = s.irqEn := rfl
@[simp] theorem setCoef_irqPend (v) : (s.setCoef v).irqPend = s.irqPend := rfl
@[simp] theorem setCoef_rdata (v) : (s.setCoef v).rdata = s.rdata := rfl
@[simp] theorem setCoef_ops (v) : (s.setCoef v).ops = s.ops := rfl

@[simp] theorem setHist_voice (v) : (s.setHist v).voice = s.voice := rfl
@[simp] theorem setHist_osc (v) : (s.setHist v).osc = s.osc := rfl
@[simp] theorem setHist_ftw (v) : (s.setHist v).ftw = s.ftw := rfl
@[simp] theorem setHist_oscCtl (v) : (s.setHist v).oscCtl = s.oscCtl := rfl
@[simp] theorem setHist_tuning (v) : (s.setHist v).tuning = s.tuning := rfl
@[simp] theorem setHist_mode (v) : (s.setHist v).mode = s.mode := rfl
@[simp] theorem setHist_coef (v) : (s.setHist v).coef = s.coef := rfl
@[simp] theorem setHist_hist (v) : (s.setHist v).hist = v := rfl
@[simp] theorem setHist_lfo (v) : (s.setHist v).lfo = s.lfo := rfl
@[simp] theorem setHist_env (v) : (s.setHist v).env = s.env := rfl
@[simp] theorem setHist_envCtl (v) : (s.setHist v).envCtl = s.envCtl := rfl
@[simp] theorem setHist_slots (v) : (s.setHist v).slots = s.slots := rfl
@[simp] theorem setHist_counters (v) : (s.setHist v).counters = s.counters := rfl
@[simp] theorem setHist_out (v) : (s.setHist v).out = s.out := rfl
@[simp] theorem setHist_flags (v) : (s.setHist v).flags = s.flags := rfl
@[simp] theorem setHist_irqEn (v) : (s.setHist v).irqEn = s.irqEn := rfl
@[simp] theorem setHist_irqPend (v) : (s.setHist v).irqPend = s.irqPend := rfl
@[simp] theorem setHist_rdata (v) : (s.setHist v).rdata = s.rdata := rfl
@[simp] theorem setHist_ops (v) : (s.setHist v).ops = s.ops := rfl

@[simp] theorem setLfo_voice (v) : (s.setLfo v).voice = s.voice := rfl
@[simp] theorem setLfo_osc (v) : (s.setLfo v).osc = s.osc := rfl
@[simp] theorem setLfo_ftw (v) : (s.setLfo v).ftw = s.ftw := rfl
@[simp] theorem setLfo_oscCtl (v) : (s.setLfo v).oscCtl = s.oscCtl := rfl
@[simp] theorem setLfo_tuning (v) : (s.setLfo v).tuning = s.tuning := rfl
@[simp] theorem setLfo_mode (v) : (s.setLfo v).mode = s.mode := rfl
@[simp] theorem setLfo_coef (v) : (s.setLfo v).coef = s.coef := rfl
@[simp] theorem setLfo_hist (v) : (s.setLfo v).hist = s.hist := rfl
@[simp] theorem setLfo_lfo (v) : (s.setLfo v).lfo = v := rfl
@[simp] theorem setLfo_env (v) : (s.setLfo v).env = s.env := rfl
@[simp] theorem setLfo_envCtl (v) : (s.setLfo v).envCtl = s.envCtl := rfl
@[simp] theorem setLfo_slots (v) : (s.setLfo v).slots = s.slots := rfl
@[simp] theorem setLfo_counters (v) : (s.setLfo v).counters = s.counters := rfl
@[simp] theorem setLfo_out (v) : (s.setLfo v).out = s.out := rfl
@[simp] theorem setLfo_flags (v) : (s.setLfo v).flags = s.flags := rfl
@[simp] theorem setLfo_irqEn (v) : (s.setLfo v).irqEn = s.irqEn := rfl
@[simp] theorem setLfo_irqPend (v) : (s.setLfo v).irqPend = s.irqPend := rfl
@[simp] theorem setLfo_rdata (v) : (s.setLfo v).rdata = s.rdata := rfl
@[simp] theorem setLfo_ops (v) : (s.setLfo v).ops = s.ops := rfl

@[simp] theorem setEnv_voice (v) : (s.setEnv v).voice = s.voice := rfl
@[simp] theorem setEnv_osc (v) : (s.setEnv v).osc = s.osc := rfl
@[simp] theorem setEnv_ftw (v) : (s.setEnv v).ftw = s.ftw := rfl
@[simp] theorem setEnv_oscCtl (v) : (s.setEnv v).oscCtl = s.oscCtl := rfl
@[simp] theorem setEnv_tuning (v) : (s.setEnv v).tuning = s.tuning := rfl
@[simp] theorem setEnv_mode (v) : (s.setEnv v).mode = s.mode := rfl
@[simp] theorem setEnv_coef (v) : (s.setEnv v).coef = s.coef := rfl
@[simp] theorem setEnv_hist (v) : (s.setEnv v).hist = s.hist := rfl
@[simp] theorem setEnv_lfo (v) : (s.setEnv v).lfo = s.lfo := rfl
@[simp] theorem setEnv_env (v) : (s.setEnv v).env = v := rfl
@[simp] theorem setEnv_envCtl (v) : (s.setEnv v).envCtl = s.envCtl := rfl
@[simp] theorem setEnv_slots (v) : (s.setEnv v).slots = s.slots := rfl
@[simp] theorem setEnv_counters (v) : (s.setEnv v).counters = s.counters := rfl
@[simp] theorem setEnv_out (v) : (s.setEnv v).out = s.out := rfl
@[simp] theorem setEnv_flags (v) : (s.setEnv v).flags = s.flags := rfl
@[simp] theorem setEnv_irqEn (v) : (s.setEnv v).irqEn = s.irqEn := rfl
@[simp] theorem setEnv_irqPend (v) : (s.setEnv v).irqPend = s.irqPend := rfl
@[simp] theorem setEnv_rdata (v) : (s.setEnv v).rdata = s.rdata := rfl
@[simp] theorem setEnv_ops (v) : (s.setEnv v).ops = s.ops := rfl

@[simp] theorem setEnvCtl_voice (v) : (s.setEnvCtl v).voice = s.voice := rfl
@[simp] theorem setEnvCtl_osc (v) : (s.setEnvCtl v).osc = s.osc := rfl
@[simp] theorem setEnvCtl_ftw (v) : (s.setEnvCtl v).ftw = s.ftw := rfl
@[simp] theorem setEnvCtl_oscCtl (v) : (s.setEnvCtl v).oscCtl = s.oscCtl := rfl
@[simp] theorem setEnvCtl_tuning (v) : (s.setEnvCtl v).tuning = s.tuning := rfl
@[simp] theorem setEnvCtl_mode (v) : (s.setEnvCtl v).mode = s.mode := rfl
@[simp] theorem setEnvCtl_coef (v) : (s.setEnvCtl v).coef = s.coef := rfl
@[simp] theorem setEnvCtl_hist (v) : (s.setEnvCtl v).hist = s.hist := rfl
@[simp] theorem setEnvCtl_lfo (v) : (s.setEnvCtl v).lfo = s.lfo := rfl
@[simp] theorem setEnvCtl_env (v) : (s.setEnvCtl v).env = s.env := rfl
@[simp] theorem setEnvCtl_envCtl (v) : (s.setEnvCtl v).envCtl = v := rfl
@[simp] theorem setEnvCtl_slots (v) : (s.setEnvCtl v).slots = s.slots := rfl
@[simp] theorem setEnvCtl_counters (v) : (s.setEnvCtl v).counters = s.counters := rfl
@[simp] theorem setEnvCtl_out (v) : (s.setEnvCtl v).out = s.out := rfl
@[simp] theorem setEnvCtl_flags (v) : (s.setEnvCtl v).flags = s.flags := rfl
@[simp] theorem setEnvCtl_irqEn (v) : (s.setEnvCtl v).irqEn = s.irqEn := rfl
@[simp] theorem setEnvCtl_irqPend (v) : (s.setEnvCtl v).irqPend = s.irqPend := rfl
@[simp] theorem setEnvCtl_rdata (v) : (s.setEnvCtl v).rdata = s.rdata := rfl
@[simp] theorem setEnvCtl_ops (v) : (s.setEnvCtl v).ops = s.ops := rfl

@[simp] theorem setSlots_voice (v) : (s.setSlots v).voice = s.voice := rfl
@[simp] theorem setSlots_osc (v) : (s.setSlots v).osc = s.osc := rfl
@[simp] theorem setSlots_ftw (v) : (s.setSlots v).ftw = s.ftw := rfl
@[simp] theorem setSlots_oscCtl (v) : (s.setSlots v).oscCtl = s.oscCtl := rfl
@[simp] theorem setSlots_tuning (v) : (s.setSlots v).tuning = s.tuning := rfl
@[simp] theorem setSlots_mode (v) : (s.setSlots v).mode = s.mode := rfl
@[simp] theorem setSlots_coef (v) : (s.setSlots v).coef = s.coef := rfl
@[simp] theorem setSlots_hist (v) : (s.setSlots v).hist = s.hist := rfl
@[simp] theorem setSlots_lfo (v) : (s.setSlots v).lfo = s.lfo := rfl
@[simp] theorem setSlots_env (v) : (s.setSlots v).env = s.env := rfl
@[simp] theorem setSlots_envCtl (v) : (s.setSlots v).envCtl = s.envCtl := rfl
@[simp] theorem setSlots_slots (v) : (s.setSlots v).slots = v := rfl
@[simp] theorem setSlots_counters (v) : (s.setSlots v).counters = s.counters := rfl
@[simp] theorem setSlots_out (v) : (s.setSlots v).out = s.out := rfl
@[simp] theorem setSlots_flags (v) : (s.setSlots v).flags = s.flags := rfl
@[simp] theorem setSlots_irqEn (v) : (s.setSlots v).irqEn = s.irqEn := rfl
@[simp] theorem setSlots_irqPend (v) : (s.setSlots v).irqPend = s.irqPend := rfl
@[simp] theorem setSlots_rdata (v) : (s.setSlots v).rdata = s.rdata := rfl
@[simp] theorem setSlots_ops (v) : (s.setSlots v).ops = s.ops := rfl

@[simp] theorem setCounters_voice (v) : (s.setCounters v).voice = s.voice := rfl
@[simp] theorem setCounters_osc (v) : (s.setCounters v).osc = s.osc := rfl
@[simp] theorem setCounters_ftw (v) : (s.setCounters v).ftw = s.ftw := rfl
@[simp] theorem setCounters_oscCtl (v) : (s.setCounters v).oscCtl = s.oscCtl := rfl
@[simp] theorem setCounters_tuning (v) : (s.setCounters v).tuning = s.tuning := rfl
@[simp] theorem setCounters_mode (v) : (s.setCounters v).mode = s.mode := rfl
@[simp] theorem setCounters_coef (v) : (s.setCounters v).coef = s.coef := rfl
@[simp] theorem setCounters_hist (v) : (s.setCounters v).hist = s.hist := rfl
@[simp] theorem setCounters_lfo (v) : (s.setCounters v).lfo = s.lfo := rfl
@[simp] theorem setCounters_env (v) : (s.setCounters v).env = s.env := rfl
@[simp] theorem setCounters_envCtl (v) : (s.setCounters v).envCtl = s.envCtl := rfl
@[simp] theorem setCounters_slots (v) : (s.setCounters v).slots = s.slots := rfl
@[simp] theorem setCounters_counters (v) : (s.setCounters v).counters = v := rfl
@[simp] theorem setCounters_out (v) : (s.setCounters v).out = s.out := rfl
@[simp] theorem setCounters_flags (v) : (s.setCounters v).flags = s.flags := rfl
@[simp] theorem setCounters_irqEn (v) : (s.setCounters v).irqEn = s.irqEn := rfl
@[simp] theorem setCounters_irqPend (v) : (s.setCounters v).irqPend = s.irqPend := rfl
@[simp] theorem setCounters_rdata (v) : (s.setCounters v).rdata = s.rdata := rfl
@[simp] theorem setCounters_ops (v) : (s.setCounters v).ops = s.ops := rfl

@[simp] theorem setOut_voice (v) : (s.setOut v).voice = s.voice := rfl
@[simp] theorem setOut_osc (v) : (s.setOut v).osc = s.osc := rfl
@[simp] theorem setOut_ftw (v) : (s.setOut v).ftw = s.ftw := rfl
@[simp] theorem setOut_oscCtl (v) : (s.setOut v).oscCtl = s.oscCtl := rfl
@[simp] theorem setOut_tuning (v) : (s.setOut v).tuning = s.tuning := rfl
@[simp] theorem setOut_mode (v) : (s.setOut v).mode = s.mode := rfl
@[simp] theorem setOut_coef (v) : (s.setOut v).coef = s.coef := rfl
@[simp] theorem setOut_hist (v) : (s.setOut v).hist = s.hist := rfl
@[simp] theorem setOut_lfo (v) : (s.setOut v).lfo = s.lfo := rfl
@[simp] theorem setOut_env (v) : (s.setOut v).env = s.env := rfl
@[simp] theorem setOut_envCtl (v) : (s.setOut v).envCtl = s.envCtl := rfl
@[simp] theorem setOut_slots (v) : (s.setOut v).slots = s.slots := rfl
@[simp] theorem setOut_counters (v) : (s.setOut v).counters = s.counters := rfl
@[simp] theorem setOut_out (v) : (s.setOut v).out = v := rfl
@[simp] theorem setOut_flags (v) : (s.setOut v).flags = s.flags := rfl
@[simp] theorem setOut_irqEn (v) : (s.setOut v).irqEn = s.irqEn := rfl
@[simp] theorem setOut_irqPend (v) : (s.setOut v).irqPend = s.irqPend := rfl
@[simp] theorem setOut_rdata (v) : (s.setOut v).rdata = s.rdata := rfl
@[simp] theorem setOut_ops (v) : (s.setOut v).ops = s.ops := rfl

@[simp] theorem setFlags_voice (v) : (s.setFlags v).voice = s.voice := rfl
@[simp] theorem setFlags_osc (v) : (s.setFlags v).osc = s.osc := rfl
@[simp] theorem setFlags_ftw (v) : (s.setFlags v).ftw = s.ftw := rfl
@[simp] theorem setFlags_oscCtl (v) : (s.setFlags v).oscCtl = s.oscCtl := rfl
@[simp] theorem setFlags_tuning (v) : (s.setFlags v).tuning = s.tuning := rfl
@[simp] theorem setFlags_mode (v) : (s.setFlags v).mode = s.mode := rfl
@[simp] theorem setFlags_coef (v) : (s.setFlags v).coef = s.coef := rfl
@[simp] theorem setFlags_hist (v) : (s.setFlags v).hist = s.hist := rfl
@[simp] theorem setFlags_lfo (v) : (s.setFlags v).lfo = s.lfo := rfl
@[simp] theorem setFlags_env (v) : (s.setFlags v).env = s.env := rfl
@[simp] theorem setFlags_envCtl (v) : (s.setFlags v).envCtl = s.envCtl := rfl
@[simp] theorem setFlags_slots (v) : (s.setFlags v).slots = s.slots := rfl
@[simp] theorem setFlags_counters (v) : (s.setFlags v).counters = s.counters := rfl
@[simp] theorem setFlags_out (v) : (s.setFlags v).out = s.out := rfl
@[simp] theorem setFlags_flags (v) : (s.setFlags v).flags = v := rfl
@[simp] theorem setFlags_irqEn (v) : (s.setFlags v).irqEn = s.irqEn := rfl
@[simp] theorem setFlags_irqPend (v) : (s.setFlags v).irqPend = s.irqPend := rfl
@[simp] theorem setFlags_rdata (v) : (s.setFlags v).rdata = s.rdata := rfl
@[simp] theorem setFlags_ops (v) : (s.setFlags v).ops = s.ops := rfl

@[simp] theorem setIrqEn_voice (v) : (s.setIrqEn v).voice = s.voice := rfl
@[simp] theorem setIrqEn_osc (v) : (s.setIrqEn v).osc = s.osc := rfl
@[simp] theorem setIrqEn_ftw (v) : (s.setIrqEn v).ftw = s.ftw := rfl
@[simp] theorem setIrqEn_oscCtl (v) : (s.setIrqEn v).oscCtl = s.oscCtl := rfl
@[simp] theorem setIrqEn_tuning (v) : (s.setIrqEn v).tuning = s.tuning := rfl
@[simp] theorem setIrqEn_mode (v) : (s.setIrqEn v).mode = s.mode := rfl
@[simp] theorem setIrqEn_coef (v) : (s.setIrqEn v).coef = s.coef := rfl
@[simp] theorem setIrqEn_hist (v) : (s.setIrqEn v).hist = s.hist := rfl
@[simp] theorem setIrqEn_lfo (v) : (s.setIrqEn v).lfo = s.lfo := rfl
@[simp] theorem setIrqEn_env (v) : (s.setIrqEn v).env = s.env := rfl
@[simp] theorem setIrqEn_envCtl (v) : (s.setIrqEn v).envCtl = s.envCtl := rfl
@[simp] theorem setIrqEn_slots (v) : (s.setIrqEn v).slots = s.slots := rfl
@[simp] theorem setIrqEn_counters (v) : (s.setIrqEn v).counters = s.counters := rfl
@[simp] theorem setIrqEn_out (v) : (s.setIrqEn v).out = s.out := rfl
@[simp] theorem setIrqEn_flags (v) : (s.setIrqEn v).flags = s.flags := rfl
@[simp] theorem setIrqEn_irqEn (v) : (s.setIrqEn v).irqEn = v := rfl
@[simp] theorem setIrqEn_irqPend (v) : (s.setIrqEn v).irqPend = s.irqPend := rfl
@[simp] theorem setIrqEn_rdata (v) : (s.setIrqEn v).rdata = s.rdata := rfl
@[simp] theorem setIrqEn_ops (v) : (s.setIrqEn v).ops = s.ops := rfl

@[simp] theorem setIrqPend_voice (v) : (s.setIrqPend v).voice = s.voice := rfl
@[simp] theorem setIrqPend_osc (v) : (s.setIrqPend v).osc = s.osc := rfl
@[simp] theorem setIrqPend_ftw (v) : (s.setIrqPend v).ftw = s.ftw := rfl
@[simp] theorem setIrqPend_oscCtl (v) : (s.setIrqPend v).oscCtl = s.oscCtl := rfl
@[simp] theorem setIrqPend_tuning (v) : (s.setIrqPend v).tuning = s.tuning := rfl
@[simp] theorem setIrqPend_mode (v) : (s.setIrqPend v).mode = s.mode := rfl
@[simp] theorem setIrqPend_coef (v) : (s.setIrqPend v).coef = s.coef := rfl
@[simp] theorem setIrqPend_hist (v) : (s.setIrqPend v).hist = s.hist := rfl
@[simp] theorem setIrqPend_lfo (v) : (s.setIrqPend v).lfo = s.lfo := rfl
@[simp] theorem setIrqPend_env (v) : (s.setIrqPend v).env = s.env := rfl
@[simp] theorem setIrqPend_envCtl (v) : (s.setIrqPend v).envCtl = s.envCtl := rfl
@[simp] theorem setIrqPend_slots (v) : (s.setIrqPend v).slots = s.slots := rfl
@[simp] theorem setIrqPend_counters (v) : (s.setIrqPend v).counters = s.counters := rfl
@[simp] theorem setIrqPend_out (v) : (s.setIrqPend v).out = s.out := rfl
@[simp] theorem setIrqPend_flags (v) : (s.setIrqPend v).flags = s.flags := rfl
@[simp] theorem setIrqPend_irqEn (v) : (s.setIrqPend v).irqEn = s.irqEn := rfl
@[simp] theorem setIrqPend_irqPend (v) : (s.setIrqPend v).irqPend = v := rfl
@[simp] theorem setIrqPend_rdata (v) : (s.setIrqPend v).rdata = s.rdata := rfl
@[simp] theorem setIrqPend_ops (v) : (s.setIrqPend v).ops = s.ops := rfl

@[simp] theorem setRdata_voice (v) : (s.setRdata v).voice = s.voice := rfl
@[simp] theorem setRdata_osc (v) : (s.setRdata v).osc = s.osc := rfl
@[simp] theorem setRdata_ftw (v) : (s.setRdata v).ftw = s.ftw := rfl
@[simp] theorem setRdata_oscCtl (v) : (s.setRdata v).oscCtl = s.oscCtl := rfl
@[simp] theorem setRdata_tuning (v) : (s.setRdata v).tuning = s.tuning := rfl
@[simp] theorem setRdata_mode (v) : (s.setRdata v).mode = s.mode := rfl
@[simp] theorem setRdata_coef (v) : (s.setRdata v).coef = s.coef := rfl
@[simp] theorem setRdata_hist (v) : (s.setRdata v).hist = s.hist := rfl
@[simp] theorem setRdata_lfo (v) : (s.setRdata v).lfo = s.lfo := rfl
@[simp] theorem setRdata_env (v) : (s.setRdata v).env = s.env := rfl
@[simp] theorem setRdata_envCtl (v) : (s.setRdata v).envCtl = s.envCtl := rfl
@[simp] theorem setRdata_slots (v) : (s.setRdata v).slots = s.slots := rfl
@[simp] theorem setRdata_counters (v) : (s.setRdata v).counters = s.counters := rfl
@[simp] theorem setRdata_out (v) : (s.setRdata v).out = s.out := rfl
@[simp] theorem setRdata_flags (v) : (s.setRdata v).flags = s.flags := rfl
@[simp] theorem setRdata_irqEn (v) : (s.setRdata v).irqEn = s.irqEn := rfl
@[simp] theorem setRdata_irqPend (v) : (s.setRdata v).irqPend = s.irqPend := rfl
@[simp] theorem setRdata_rdata (v) : (s.setRdata v).rdata = v := rfl
@[simp] theorem setRdata_ops (v) : (s.setRdata v).ops = s.ops := rfl

@[simp] theorem setOps_voice (v) : (s.setOps v).voice = s.voice := rfl
@[simp] theorem setOps_osc (v) : (s.setOps v).osc = s.osc := rfl
@[simp] theorem setOps_ftw (v) : (s.setOps v).ftw = s.ftw := rfl
@[simp] theorem setOps_oscCtl (v) : (s.setOps v).oscCtl = s.oscCtl := rfl
@[simp] theorem setOps_tuning (v) : (s.setOps v).tuning = s.tuning := rfl
@[simp] theorem setOps_mode (v) : (s.setOps v).mode = s.mode := rfl
@[simp] theorem setOps_coef (v) : (s.setOps v).coef = s.coef := rfl
@[simp] theorem setOps_hist (v) : (s.setOps v).hist = s.hist := rfl
@[simp] theorem setOps_lfo (v) : (s.setOps v).lfo = s.lfo := rfl
@[simp] theorem setOps_env (v) : (s.setOps v).env = s.env := rfl
@[simp] theorem setOps_envCtl (v) : (s.setOps v).envCtl = s.envCtl := rfl
@[simp] theorem setOps_slots (v) : (s.setOps v).slots = s.slots := rfl
@[simp] theorem setOps_counters (v) : (s.setOps v).counters = s.counters := rfl
@[simp] theorem setOps_out (v) : (s.setOps v).out = s.out := rfl
@[simp] theorem setOps_flags (v) : (s.setOps v).flags = s.flags := rfl
@[simp] theorem setOps_irqEn (v) : (s.setOps v).irqEn = s.irqEn := rfl
@[simp] theorem setOps_irqPend (v) : (s.setOps v).irqPend = s.irqPend := rfl
@[simp] theorem setOps_rdata (v) : (s.setOps v).rdata = s.rdata := rfl
@[simp] theorem setOps_ops (v) : (s.setOps v).ops = v := rfl

end Sys2Proof.Machine.State
end

