-- ==== Sys2Proof/Laws/Envelope.lean ====
section
/-! SUPPORT. The envelope step: its range, when it ends, and the bounds of the amplitude path. -/

namespace Sys2Proof.Machine

theorem incElapsed_range {e : Int} (h0 : 0 ≤ e) (h1 : e < 2 ^ 32) : 0 ≤ incElapsed e ∧ incElapsed e < 2 ^ 32 := by
  unfold incElapsed; omega

/-- The level after a step stays in [0, 2^23] (spec/47_envelope.md R178). -/
theorem envStep_level_range {c : EnvCtrl} (hs : c.sus.toNat ≤ 2 ^ 23) (g : Stage) {level : Int} (elapsed : Int)
    (h0 : 0 ≤ level) (h1 : level ≤ 2 ^ 23) :
    0 ≤ (envStep c g level elapsed).level ∧ (envStep c g level elapsed).level ≤ 2 ^ 23 := by
  cases g <;> simp only [envStep, attackStep, decayStep, sustainStep, releaseStep] <;>
    first | omega | (split_ifs <;> dsimp only <;> omega)

theorem envStep_elapsed_range (c : EnvCtrl) (g : Stage) (level : Int) {elapsed : Int} (h0 : 0 ≤ elapsed)
    (h1 : elapsed < 2 ^ 32) :
    0 ≤ (envStep c g level elapsed).elapsed ∧ (envStep c g level elapsed).elapsed < 2 ^ 32 := by
  have := incElapsed_range h0 h1
  cases g <;> simp only [envStep, attackStep, decayStep, sustainStep, releaseStep] <;>
    first | omega | (split_ifs <;> dsimp only <;> omega)

/-- A step reaches IDLE from another stage exactly when it ends a release, and then level and elapsed are 0 (R176). -/
theorem envStep_ended_iff (c : EnvCtrl) (g : Stage) (level elapsed : Int) :
    (envStep c g level elapsed).ended = true ↔
      g = .release ∧ (level ≤ c.rel.toNat ∨ level ≤ c.floor.toNat) := by
  cases g <;> simp only [envStep, attackStep, decayStep, sustainStep, releaseStep] <;> (try split) <;> simp_all

theorem envStep_idle {c : EnvCtrl} {g : Stage} {level elapsed : Int} (hg : g ≠ .idle)
    (h : (envStep c g level elapsed).stage = .idle) :
    (envStep c g level elapsed).level = 0 ∧ (envStep c g level elapsed).elapsed = 0 ∧
      (envStep c g level elapsed).ended = true ∧ g = .release := by
  cases g <;> simp only [envStep, attackStep, decayStep, sustainStep, releaseStep] at * <;> (try split at h) <;> simp_all

/-! The envelope step on the state. -/

/-- The step of the state's own registers. -/
abbrev envOf (s : State) : EnvStep := envStep s.envCtl s.voice.stage s.env.level.toNat s.env.elapsed.toNat

theorem envelopeStep_eq (s : State) :
    envelopeStep s =
      { s with
        voice := { s.voice with stage := (envOf s).stage }
        env := { level := BitVec.ofInt 25 (envOf s).level, elapsed := BitVec.ofInt 32 (envOf s).elapsed }
        irqPend := s.irqPend || (envOf s).ended } := rfl

/-! The amplitude path. -/

/-- Each factor is at most 1.0, so the result needs no saturation (R177). -/
theorem amp_range {y level g : Int} {vel : Nat} (hy0 : -2 ^ 23 ≤ y) (hy1 : y ≤ 2 ^ 23 - 1) (hl0 : 0 ≤ level)
    (hl1 : level ≤ 2 ^ 23) (hg0 : 0 ≤ g) (hg1 : g ≤ 2 ^ 23) (hv : vel ≤ 127) :
    -2 ^ 23 ≤ amp y level g vel ∧ amp y level g vel ≤ 2 ^ 23 - 1 := by
  have a := fdiv_scale_range (x := y) (lo := -2 ^ 23) (hi := 2 ^ 23 - 1) (by norm_num : (0 : Int) < 2 ^ 23) hl0 hl1 hy0
    hy1 (by norm_num) (by norm_num)
  have b := fdiv_scale_range (lo := -2 ^ 23) (hi := 2 ^ 23 - 1) (by norm_num : (0 : Int) < 2 ^ 23) hg0 hg1 a.1 a.2
    (by norm_num) (by norm_num)
  exact fdiv_scale_range (lo := -2 ^ 23) (hi := 2 ^ 23 - 1) (by norm_num : (0 : Int) < 128) (by omega) (by omega) b.1 b.2
    (by norm_num) (by norm_num)

@[simp] theorem amp_level_zero (y g : Int) (vel : Nat) : amp y 0 g vel = 0 := by simp [amp]

@[simp] theorem amp_gain_zero (y level : Int) (vel : Nat) : amp y level 0 vel = 0 := by simp [amp]

end Sys2Proof.Machine
end

