-- ==== Sys2Proof/Laws/Ops.lean ====
section
/-! SUPPORT. What the shared operations of the control port can do, said once each: a READ, a WARL write, the flags and
the slot file. -/

namespace Sys2Proof.Machine

/-! The slot file. -/

@[simp] theorem SlotFile.get_set_self (f : SlotFile) (i : Slot) (r : SlotRegs) : (f.set i r).get i = r := by cases i <;> rfl

theorem SlotFile.get_set_of_ne (f : SlotFile) {i j : Slot} (r : SlotRegs) (h : j ≠ i) : (f.set i r).get j = f.get j := by
  cases i <;> cases j <;> first | rfl | exact absurd rfl h

theorem SlotFile.set_get (f : SlotFile) (i : Slot) : f.set i (f.get i) = f := by cases i <;> rfl

theorem SlotFile.ext_get {f g : SlotFile} (h : ∀ i, f.get i = g.get i) : f = g := by
  cases f; cases g
  simp only [SlotFile.mk.injEq]
  exact ⟨h .bend, h .detune, h .mix, h .cutoff, h .res, h .gain, h .lfoRate, h .depthPitch, h .depthCut, h .depthAmp⟩

/-- A value in the slot's range reads back as itself from the 32-bit word it is stored in. -/
theorem slotValue_u32 {i : Slot} {v : Int} (hl : (slotRow i).lo ≤ v) (hh : v ≤ (slotRow i).hi) : slotValue i (u32 v) = v := by
  cases i <;> simp only [slotRow] at hl hh <;> simp only [slotValue, slotRow] <;>
    first
    | exact u32_toInt (by omega) (by omega)
    | exact u32_toNat (by omega) (by omega)

/-- The word of a legal slot value is determined by the value. -/
theorem u32_slotValue (i : Slot) (w : Word) : u32 (slotValue i w) = w := by
  unfold slotValue u32
  split
  · exact BitVec.ofInt_toInt
  · simp

theorem slotRow_lo_le_hi (i : Slot) : (slotRow i).lo ≤ (slotRow i).hi := by cases i <;> simp [slotRow]

/-! READ. -/

theorem answer_eq (v : Word) (s : State) : answer v s = .next { s with rdata := some v } := rfl

/-! FLAGS and IRQ_PEND. -/

theorem flagOf_setFlag (f g : Flag) (s : State) : flagOf g (setFlag f s) = (flagOf g s || g == f) := by
  cases f <;> cases g <;> simp [flagOf, setFlag, Flag.bit, State.setFlags]

theorem setFlag_eq (f : Flag) (s : State) : setFlag f s = { s with flags := s.flags ||| (1#4 <<< f.bit) } := rfl

theorem setFlagIf_eq (c : Bool) (f : Flag) (s : State) :
    setFlagIf c f s = { s with flags := if c then s.flags ||| (1#4 <<< f.bit) else s.flags } := by
  cases c <;> rfl

theorem flagOf_setFlagIf (c : Bool) (f g : Flag) (s : State) : flagOf g (setFlagIf c f s) = (flagOf g s || (c && g == f)) := by
  cases c
  · simp [setFlagIf]
  · simpa [setFlagIf] using flagOf_setFlag f g s

@[simp] theorem pendIdleIf_irqPend (e : Bool) (s : State) : (pendIdleIf e s).irqPend = (s.irqPend || e) := rfl

/-! WARL writes: the one outcome, and what the stored value is. -/

theorem warl_eq (x lo hi : Int) (store : Word → State → State) (s : State) :
    warl x lo hi store s = .next (store (u32 (clamp x lo hi)) (setFlagIf (clamp x lo hi != x) .clamp s)) := rfl

/-- A value in range is stored unchanged and sets no flag. -/
theorem warl_of_range {x lo hi : Int} (store : Word → State → State) (s : State) (hl : lo ≤ x) (hh : x ≤ hi) :
    warl x lo hi store s = .next (store (u32 x) s) := by
  rw [warl_eq, clamp_eq_self hl hh]; simp [setFlagIf]

/-- The word a WARL write of an unsigned field stores, for bounds that fit 32 bits. -/
theorem toNat_u32_clamp {x lo hi : Int} (h : lo ≤ hi) (h0 : 0 ≤ lo) (h1 : hi < 2 ^ 32) :
    ((u32 (clamp x lo hi)).toNat : Int) = clamp x lo hi :=
  u32_toNat (h0.trans (le_clamp h)) ((clamp_le h).trans_lt h1)

/-- The same for a 24-bit field. -/
theorem toNat_u24_clamp {x lo hi : Int} (h : lo ≤ hi) (h0 : 0 ≤ lo) (h1 : hi < 2 ^ 24) :
    (((u32 (clamp x lo hi)).setWidth 24).toNat : Int) = clamp x lo hi := by
  have e := toNat_u32_clamp (x := x) h h0 (h1.trans (by norm_num))
  have b := clamp_le (v := x) h
  rw [BitVec.toNat_setWidth, Nat.mod_eq_of_lt (by omega), e]

/-- The CLAMP flag of a WARL write says that the value was outside its range. -/
theorem clamped_iff {x lo hi : Int} (h : lo ≤ hi) : (clamp x lo hi != x) = true ↔ x < lo ∨ hi < x := by
  rw [bne_iff_ne, ne_eq, clamp_eq_self_iff h]; omega

end Sys2Proof.Machine
end

