-- ==== Sys2Proof/Laws/Rom.lean ====
section
/-! SUPPORT. The two ROMs: the bounds of SINE_ROM, checked entry by entry, and the search that finds an EXP_ROM entry. -/

namespace Sys2Proof.Machine

/-- Every entry lies in [-2^23, 2^23] (spec/44_oscillator.md R144). -/
theorem sineRom_range : ∀ k < 1024, -2 ^ 23 ≤ sineRom k ∧ sineRom k ≤ 2 ^ 23 := by decide +kernel

/-- The first half wave is not negative. -/
theorem sineRom_nonneg : ∀ k < 513, 0 ≤ sineRom k := by decide +kernel

/-- The entries a filter's sin(w0) is interpolated from, past the first segment. -/
theorem sineRom_ge_first : ∀ k < 497, 1 ≤ k → sineRom 1 ≤ sineRom k := by decide +kernel

/-- The entries a filter's cos(w0) is interpolated from, past the first segment, keep away from both peaks. -/
theorem sineRom_cos_margin : ∀ k < 754, 257 ≤ k → -(2 ^ 23 - 10) ≤ sineRom k ∧ sineRom k ≤ 2 ^ 23 - 10 := by
  decide +kernel

theorem sineRom_zero : sineRom 0 = 0 := by decide +kernel
theorem sineRom_one : sineRom 1 = 51472 := by decide +kernel
theorem sineRom_peak : sineRom 256 = 2 ^ 23 := by decide +kernel
theorem sineRom_after_peak : sineRom 257 = 8388450 := by decide +kernel

/-! EXP_ROM. -/

/-- The bit search answers a number of its interval that meets `p`, and the next one does not, unless it is the end. -/
theorem bitSearch_spec {p : Nat → Bool} (b : Nat) : ∀ v, p v = true →
    v ≤ bitSearch p b v ∧ bitSearch p b v < v + 2 ^ b ∧ p (bitSearch p b v) = true ∧
      (p (bitSearch p b v + 1) = false ∨ bitSearch p b v + 1 = v + 2 ^ b) := by
  induction b with
  | zero => intro v h; simp [bitSearch, h]
  | succ b ih =>
    intro v h
    rw [bitSearch]
    have hp : 2 ^ (b + 1) = 2 ^ b + 2 ^ b := by rw [Nat.pow_succ]; omega
    cases hc : p (v + 2 ^ b) with
    | true =>
      obtain ⟨h1, h2, h3, h4⟩ := ih (v + 2 ^ b) hc
      rw [if_pos rfl]
      exact ⟨by omega, by omega, h3, h4.imp id (by omega)⟩
    | false =>
      obtain ⟨h1, h2, h3, h4⟩ := ih v h
      rw [if_neg (by simp)]
      exact ⟨h1, by omega, h3, .inl (h4.elim id fun e => e ▸ hc)⟩

/-- What `belowExp` says, for powers in general so that no large power is ever computed. -/
theorem belowExp_iff (r v : Nat) : belowExp r v = true ↔ (2 * v - 1) ^ 12288 < 2 ^ (12288 * 31 + r) := by
  simp only [belowExp, decide_eq_true_eq]

/-- 2^30 meets the first half of the characterisation for every r. -/
theorem belowExp_low (r : Nat) : belowExp r (2 ^ 30) = true := by
  have key : ∀ n, n ≠ 0 → (2 * 2 ^ 30 - 1) ^ n < 2 ^ (n * 31 + r) := fun n hn =>
    calc (2 * 2 ^ 30 - 1) ^ n < (2 ^ 31) ^ n := Nat.pow_lt_pow_left (by norm_num) hn
      _ = 2 ^ (n * 31) := by rw [← Nat.pow_mul, Nat.mul_comm]
      _ ≤ 2 ^ (n * 31 + r) := Nat.pow_le_pow_right (by norm_num) (Nat.le_add_right _ _)
  exact (belowExp_iff r _).2 (key _ (by norm_num))

/-- EXP_ROM[r] lies in [2^30, 2^31) for every r. -/
theorem expRom_range (r : Nat) : 2 ^ 30 ≤ expRom r ∧ expRom r < 2 ^ 31 := by
  obtain ⟨h1, h2, -, -⟩ := bitSearch_spec 30 (2 ^ 30) (belowExp_low r)
  exact ⟨h1, h2⟩

/-- EXP_ROM[r] meets the first half of the characterisation, and the next number does not, unless it is 2^31. -/
theorem expRom_maximal (r : Nat) :
    belowExp r (expRom r) = true ∧ (belowExp r (expRom r + 1) = false ∨ expRom r + 1 = 2 ^ 31) := by
  obtain ⟨-, -, h3, h4⟩ := bitSearch_spec 30 (2 ^ 30) (belowExp_low r)
  exact ⟨h3, h4⟩

end Sys2Proof.Machine
end

