-- ==== Sys2Proof/Laws/Oscillator.lean ====
section
/-! SUPPORT. The oscillator functions: ranges of the sine, the triangle, the residuals and the LFO shapes. -/

namespace Sys2Proof.Machine

/-- Linear interpolation lies between its ends (spec/44_oscillator.md R146). -/
theorem lerp_between {t0 t1 f : Int} (hf0 : 0 ≤ f) (hf1 : f < 2 ^ 22) :
    min t0 t1 ≤ t0 + fdiv ((t1 - t0) * f) (2 ^ 22) ∧ t0 + fdiv ((t1 - t0) * f) (2 ^ 22) ≤ max t0 t1 := by
  rcases le_total t0 t1 with h | h
  · have := fdiv_scale_range (x := t1 - t0) (lo := 0) (hi := t1 - t0) (by norm_num : (0 : Int) < 2 ^ 22) hf0 hf1.le
      (by omega) le_rfl le_rfl (by omega)
    omega
  · have := fdiv_scale_range (x := t1 - t0) (lo := t1 - t0) (hi := 0) (by norm_num : (0 : Int) < 2 ^ 22) hf0 hf1.le
      le_rfl (by omega) (by omega) le_rfl
    omega

/-- The segment of a phase. -/
theorem segment_lt {p : Int} (h0 : 0 ≤ p) (h1 : p < 2 ^ 32) : (asr p 22).toNat < 1024 := by unfold asr fdiv; omega

/-- `S(p)` lies between the two entries of its segment. -/
theorem sine_between (p : Int) :
    min (sineRom (asr p 22).toNat) (sineRom (((asr p 22).toNat + 1) % 1024)) ≤ sine p ∧
      sine p ≤ max (sineRom (asr p 22).toNat) (sineRom (((asr p 22).toNat + 1) % 1024)) :=
  lerp_between (Int.emod_nonneg _ (by norm_num)) (Int.emod_lt_of_pos _ (by norm_num))

theorem sine_range {p : Int} (h0 : 0 ≤ p) (h1 : p < 2 ^ 32) : -2 ^ 23 ≤ sine p ∧ sine p ≤ 2 ^ 23 := by
  have a := sineRom_range _ (segment_lt h0 h1)
  have b := sineRom_range (((asr p 22).toNat + 1) % 1024) (Nat.mod_lt _ (by norm_num))
  have c := sine_between p
  omega

theorem triN_range {p : Int} (h0 : 0 ≤ p) (h1 : p < 2 ^ 32) : -2 ^ 23 ≤ triN p ∧ triN p ≤ 2 ^ 23 := by
  simp only [triN, asr, fdiv]; split_ifs <;> omega

theorem lfoWave_range (shape : LfoShape) {p : Int} (h0 : 0 ≤ p) (h1 : p < 2 ^ 32) :
    -2 ^ 23 ≤ lfoWave shape p ∧ lfoWave shape p ≤ 2 ^ 23 := by
  cases shape
  · exact sine_range h0 h1
  · exact triN_range h0 h1
  · simp only [lfoWave, asr, fdiv]; omega
  · simp only [lfoWave, asr, fdiv]; omega

/-- The nearness to a discontinuity, strictly inside its window (R153: `0 .. 2^16 - 1`). -/
theorem nearness_range {d dt : Int} (h0 : 0 ≤ d) (h1 : d < dt) : 0 ≤ nearness d dt ∧ nearness d dt < 2 ^ 16 := by
  have hd : 0 < dt := by omega
  refine ⟨fdiv_nonneg (by simp only [shl]; positivity) hd, ?_⟩
  rw [nearness, fdiv_lt_iff hd, shl]; nlinarith

/-- The square of a nearness complement, scaled (R153). -/
theorem blepSquare_range {x : Int} (h0 : 0 ≤ x) (h1 : x < 2 ^ 16) :
    0 ≤ asr ((2 ^ 16 - x) ^ 2) 9 ∧ asr ((2 ^ 16 - x) ^ 2) 9 ≤ 2 ^ 23 := by
  refine ⟨fdiv_nonneg (by positivity) (by norm_num), ?_⟩
  have : asr ((2 ^ 16 - x) ^ 2) 9 < 2 ^ 23 + 1 := by
    rw [asr, fdiv_lt_iff (by norm_num)]; nlinarith
  omega

/-- The effective pitch increment lies in `[FTW_MIN, 2^31 - 1]` (R150). -/
theorem p2f_range (a4 : Int) {ftwMin : Int} (h : ftwMin ≤ 2 ^ 31 - 1) (p : Int) :
    ftwMin ≤ p2f a4 ftwMin p ∧ p2f a4 ftwMin p ≤ 2 ^ 31 - 1 :=
  ⟨le_clamp (by simpa using h), (clamp_le (by simpa using h)).trans (by simp)⟩

@[simp] theorem route_zero (lv : Int) : route lv 0 = 0 := by simp [route]

theorem gainEff_range (gain depth lv : Int) : 0 ≤ gainEff gain depth lv ∧ gainEff gain depth lv ≤ 2 ^ 23 :=
  ⟨le_clamp (by norm_num), clamp_le (by norm_num)⟩

theorem osc_range (w : Waveform) (t dt : Int) : -2 ^ 23 ≤ osc w t dt ∧ osc w t dt ≤ 2 ^ 23 - 1 := sat24_range _

theorem mix_range (sA sB mx : Int) : -2 ^ 23 ≤ mix sA sB mx ∧ mix sA sB mx ≤ 2 ^ 23 - 1 := sat24_range _

end Sys2Proof.Machine
end

