-- ==== Sys2Proof/Laws/Filter.lean ====
section
/-! SUPPORT. The filter: sin(w0), cos(w0) and alpha over the legal cutoff and resonance range, and that every
coefficient fits its register. -/

namespace Sys2Proof.Machine

theorem cutoffEff_range (cut depth lv : Int) :
    0x00040000 ≤ cutoffEff cut depth lv ∧ cutoffEff cut depth lv ≤ 0x7C000000 :=
  ⟨le_clamp (by decide), clamp_le (by decide)⟩

/-- A point at least 2^18 into a segment whose slope is known. -/
theorem sine_segment {p : Int} {i : Nat} (hi : asr p 22 = i) :
    sine p = sineRom i + fdiv ((sineRom ((i + 1) % 1024) - sineRom i) * (p % 2 ^ 22)) (2 ^ 22) := by
  simp [sine, hi]

/-- `sn` is in [3217, 2^23] over the cutoff range (spec/45_filter.md R161). -/
theorem coefSn_range {c : Int} (h0 : 0x00040000 ≤ c) (h1 : c ≤ 0x7C000000) : 3217 ≤ coefSn c ∧ coefSn c ≤ 2 ^ 23 := by
  refine ⟨?_, (sine_range (by omega) (by omega)).2⟩
  by_cases hs : asr c 22 = 0
  · have e := sine_segment (i := 0) hs
    rw [coefSn, e, sineRom_zero, sineRom_one]
    have : (3217 : Int) ≤ fdiv ((51472 - 0) * (c % 2 ^ 22)) (2 ^ 22) := by
      rw [fdiv_le_iff (by norm_num)]; simp only [asr, fdiv] at hs; omega
    omega
  · have hb := sine_between c
    have hseg : 1 ≤ (asr c 22).toNat ∧ (asr c 22).toNat ≤ 496 := by simp only [asr, fdiv] at *; omega
    by_cases hl : (asr c 22).toNat = 496
    · have hz : c % 2 ^ 22 = 0 := by simp only [asr, fdiv] at *; omega
      have e := sine_segment (p := c) (i := 496) (by simp only [asr, fdiv] at *; omega)
      rw [coefSn, e, hz]
      have := sineRom_ge_first 496 (by norm_num) (by norm_num)
      rw [sineRom_one] at this; simp; omega
    · have a := sineRom_ge_first (asr c 22).toNat (by omega) hseg.1
      have b := sineRom_ge_first (((asr c 22).toNat + 1) % 1024) (by omega) (by omega)
      rw [sineRom_one] at a b
      simp only [coefSn]; omega

/-- `|cs| <= 2^23 - 10` over the cutoff range (spec/45_filter.md R167). -/
theorem coefCs_range {c : Int} (h0 : 0x00040000 ≤ c) (h1 : c ≤ 0x7C000000) :
    -(2 ^ 23 - 10) ≤ coefCs c ∧ coefCs c ≤ 2 ^ 23 - 10 := by
  rw [coefCs, wrap32_eq_self (by omega) (by omega)]
  by_cases hs : asr (c + 2 ^ 30) 22 = 256
  · have e := sine_segment (i := 256) hs
    rw [e, sineRom_peak, show (256 + 1) % 1024 = 257 from rfl, sineRom_after_peak]
    have lo : (-158 : Int) ≤ fdiv ((8388450 - 2 ^ 23) * ((c + 2 ^ 30) % 2 ^ 22)) (2 ^ 22) := by
      rw [fdiv_le_iff (by norm_num)]; omega
    have hi : fdiv ((8388450 - 2 ^ 23) * ((c + 2 ^ 30) % 2 ^ 22)) (2 ^ 22) < -9 := by
      rw [fdiv_lt_iff (by norm_num)]; simp only [asr, fdiv] at hs; omega
    omega
  · have hb := sine_between (c + 2 ^ 30)
    have a := sineRom_cos_margin (asr (c + 2 ^ 30) 22).toNat (by simp only [asr, fdiv] at *; omega)
      (by simp only [asr, fdiv] at *; omega)
    have b := sineRom_cos_margin (((asr (c + 2 ^ 30) 22).toNat + 1) % 1024) (by simp only [asr, fdiv] at *; omega)
      (by simp only [asr, fdiv] at *; omega)
    omega

/-- `alpha` is in [100, 2^23] for a legal cutoff and resonance. -/
theorem coefAlpha_range {c q : Int} (h0 : 0x00040000 ≤ c) (h1 : c ≤ 0x7C000000) (hq0 : 0x0800 ≤ q) (hq1 : q ≤ 0xFFFF) :
    100 ≤ coefAlpha c q ∧ coefAlpha c q ≤ 2 ^ 23 := by
  have hs := coefSn_range h0 h1
  have hq : 0 < q := by omega
  constructor
  · rw [coefAlpha, fdiv_le_iff hq, shl]; omega
  · have : coefAlpha c q < 2 ^ 23 + 1 := by rw [coefAlpha, fdiv_lt_iff hq, shl]; nlinarith
    omega

/-- A quotient of a bounded numerator by a0, which is above 2^23. -/
theorem coef_quot_range {n a0 m : Int} (ha : 2 ^ 23 < a0) (hm : 0 ≤ m) (hl : -m * 2 ^ 23 ≤ n) (hh : n ≤ m * 2 ^ 23) :
    -m ≤ fdiv n a0 ∧ fdiv n a0 ≤ m := by
  have h0 : 0 < a0 := by omega
  constructor
  · rw [fdiv_le_iff h0]; nlinarith
  · have : fdiv n a0 < m + 1 := by rw [fdiv_lt_iff h0]; nlinarith
    omega

/-- Every coefficient of a legal cutoff and resonance fits its signed 32-bit register (spec/10_state.md R45). -/
theorem coefValues_fit (mode : FilterMode) {c q : Int} (h0 : 0x00040000 ≤ c) (h1 : c ≤ 0x7C000000) (hq0 : 0x0800 ≤ q)
    (hq1 : q ≤ 0xFFFF) :
    let k := coefValues mode c q
    (-2 ^ 31 ≤ k.b0 ∧ k.b0 < 2 ^ 31) ∧ (-2 ^ 31 ≤ k.b1 ∧ k.b1 < 2 ^ 31) ∧ (-2 ^ 31 ≤ k.b2 ∧ k.b2 < 2 ^ 31) ∧
      (-2 ^ 31 ≤ k.a1 ∧ k.a1 < 2 ^ 31) ∧ (-2 ^ 31 ≤ k.a2 ∧ k.a2 < 2 ^ 31) := by
  have hc := coefCs_range h0 h1
  have ha := coefAlpha_range h0 h1 hq0 hq1
  have ha0 : 2 ^ 23 < coefA0 c q := by unfold coefA0; omega
  have l := coef_quot_range (m := 2 ^ 29) (n := shl (2 ^ 23 - coefCs c) 28) ha0 (by norm_num)
    (by unfold shl; omega) (by unfold shl; omega)
  have h := coef_quot_range (m := 2 ^ 29) (n := shl (2 ^ 23 + coefCs c) 28) ha0 (by norm_num)
    (by unfold shl; omega) (by unfold shl; omega)
  have b := coef_quot_range (m := 2 ^ 29) (n := shl (coefAlpha c q) 29) ha0 (by norm_num)
    (by unfold shl; omega) (by unfold shl; omega)
  have a1 := coef_quot_range (m := 2 ^ 30) (n := -coefCs c * 2 ^ 30) ha0 (by norm_num) (by omega) (by omega)
  have a2 := coef_quot_range (m := 2 ^ 29) (n := shl (2 ^ 23 - coefAlpha c q) 29) ha0 (by norm_num)
    (by unfold shl; omega) (by unfold shl; omega)
  cases mode <;> simp only [coefValues, lowpassB0, highpassB0, bandpassB0, coefA1, coefA2] <;> omega

/-- The output of the difference equation is a sample. -/
theorem biquadOut_range (k : Coefs) (h : Hist) (x0 : Int) : -2 ^ 23 ≤ biquadOut k h x0 ∧ biquadOut k h x0 ≤ 2 ^ 23 - 1 :=
  sat24_range _

end Sys2Proof.Machine
end

