-- ==== Sys2Proof/Laws/Smoother.lean ====
section
/-! SUPPORT. The smoothing step: how far it moves, and that it stays in a slot's range. -/

namespace Sys2Proof.Machine

/-- The size of a step is at least 1 and at most the distance (spec/41_parameters.md R131: "since 1 <= m <= |d|"). -/
theorem smoothSize_range {d : Int} (hd : d ≠ 0) (shift maxstep : Nat) :
    1 ≤ smoothSize d shift maxstep ∧ smoothSize d shift maxstep ≤ absv d := by
  have h1 : 1 ≤ absv d := by unfold absv; split <;> omega
  have h2 : asr (absv d) shift ≤ absv d := by
    have : asr (absv d) shift < absv d + 1 := by
      rw [asr, fdiv_lt_iff (by positivity)]
      have : (1 : Int) ≤ 2 ^ shift := one_le_pow₀ (by norm_num)
      nlinarith
    omega
  simp only [smoothSize]
  split <;> omega

/-- The cap: a step is at most MAXSTEP when that is not 0. -/
theorem smoothSize_le_maxstep (d : Int) (shift : Nat) {maxstep : Nat} (h : maxstep ≠ 0) :
    smoothSize d shift maxstep ≤ maxstep := by simp only [smoothSize, if_pos h]; omega

/-- One step either is at the target, or moves toward it by the step size. -/
theorem smoothStep_cases (tgt cur : Int) (shift maxstep : Nat) :
    (tgt = cur ∧ smoothStep tgt cur shift maxstep = cur) ∨
    (cur < tgt ∧ smoothStep tgt cur shift maxstep = cur + smoothSize (tgt - cur) shift maxstep) ∨
    (tgt < cur ∧ smoothStep tgt cur shift maxstep = cur - smoothSize (tgt - cur) shift maxstep) := by
  simp only [smoothStep, sgn]
  rcases lt_trichotomy cur tgt with h | h | h
  · right; left
    rw [if_pos (by omega), if_neg (by omega), if_neg (by omega)]; omega
  · left
    rw [if_neg (by omega)]; omega
  · right; right
    rw [if_pos (by omega), if_pos (by omega)]; omega

/-- No overshoot. -/
theorem smoothStep_between (tgt cur : Int) (shift maxstep : Nat) :
    (cur ≤ smoothStep tgt cur shift maxstep ∧ smoothStep tgt cur shift maxstep ≤ tgt) ∨
    (tgt ≤ smoothStep tgt cur shift maxstep ∧ smoothStep tgt cur shift maxstep ≤ cur) := by
  rcases smoothStep_cases tgt cur shift maxstep with ⟨h, e⟩ | ⟨h, e⟩ | ⟨h, e⟩
  · omega
  · have := smoothSize_range (d := tgt - cur) (by omega) shift maxstep
    simp only [absv] at this; rw [if_neg (by omega)] at this; omega
  · have := smoothSize_range (d := tgt - cur) (by omega) shift maxstep
    simp only [absv] at this; rw [if_pos (by omega)] at this; omega

theorem smoothStep_within {tgt cur lo hi : Int} (shift maxstep : Nat) (ht : lo ≤ tgt ∧ tgt ≤ hi) (hc : lo ≤ cur ∧ cur ≤ hi) :
    lo ≤ smoothStep tgt cur shift maxstep ∧ smoothStep tgt cur shift maxstep ≤ hi := by
  rcases smoothStep_between tgt cur shift maxstep with h | h <;> omega

/-- The distance left strictly decreases until it is 0. -/
theorem smoothStep_dist (tgt cur : Int) (shift maxstep : Nat) :
    absv (tgt - smoothStep tgt cur shift maxstep) ≤ absv (tgt - cur) - 1 ∨
      (tgt = cur ∧ smoothStep tgt cur shift maxstep = tgt) := by
  rcases smoothStep_cases tgt cur shift maxstep with ⟨h, e⟩ | ⟨h, e⟩ | ⟨h, e⟩
  · right; omega
  · left
    have := smoothSize_range (d := tgt - cur) (by omega) shift maxstep
    simp only [absv] at this ⊢; rw [e]; split at this <;> split <;> omega
  · left
    have := smoothSize_range (d := tgt - cur) (by omega) shift maxstep
    simp only [absv] at this ⊢; rw [e]; split at this <;> split <;> omega

/-! The slot file. -/

theorem smoothAll_get (f : SlotFile) (i : Slot) : (smoothAll f).get i = smoothSlot i (f.get i) := by cases i <;> rfl

@[simp] theorem smoothSlot_tgt (i : Slot) (r : SlotRegs) : (smoothSlot i r).tgt = r.tgt := rfl
@[simp] theorem smoothSlot_shift (i : Slot) (r : SlotRegs) : (smoothSlot i r).shift = r.shift := rfl
@[simp] theorem smoothSlot_maxstep (i : Slot) (r : SlotRegs) : (smoothSlot i r).maxstep = r.maxstep := rfl

/-- In a slot whose registers are in range, CURRENT holds exactly the value the step computes. -/
theorem slotValue_smoothSlot {i : Slot} {r : SlotRegs}
    (ht : (slotRow i).lo ≤ slotValue i r.tgt ∧ slotValue i r.tgt ≤ (slotRow i).hi)
    (hc : (slotRow i).lo ≤ slotValue i r.cur ∧ slotValue i r.cur ≤ (slotRow i).hi) :
    slotValue i (smoothSlot i r).cur =
      smoothStep (slotValue i r.tgt) (slotValue i r.cur) r.shift.toNat r.maxstep.toNat := by
  have := smoothStep_within r.shift.toNat r.maxstep.toNat ht hc
  exact slotValue_u32 this.1 this.2

/-- A smoothing step keeps CURRENT in the slot's range. -/
theorem smoothSlot_within {i : Slot} {r : SlotRegs}
    (ht : (slotRow i).lo ≤ slotValue i r.tgt ∧ slotValue i r.tgt ≤ (slotRow i).hi)
    (hc : (slotRow i).lo ≤ slotValue i r.cur ∧ slotValue i r.cur ≤ (slotRow i).hi) :
    (slotRow i).lo ≤ slotValue i (smoothSlot i r).cur ∧ slotValue i (smoothSlot i r).cur ≤ (slotRow i).hi := by
  rw [slotValue_smoothSlot ht hc]
  exact smoothStep_within _ _ ht hc

end Sys2Proof.Machine
end

