-- ==== Sys2Proof/Laws/Tick.lean ====
section
/-! SUPPORT. What one TICK does, said once: its two cases, every field after each, and what its values are. -/

namespace Sys2Proof.Machine

/-! Steps 1 to 4, which run at every TICK. -/

/-- The LFO value of this TICK: smoothing does not touch the LFO. -/
theorem tickLv_smooth (s : State) : tickLv (tickSmooth s) = tickLv s := by simp [tickLv, tickSmooth]

@[simp] theorem tickFree_voice (s : State) : (tickFree s).voice = s.voice := by
  simp [tickFree, tickCoef, tickPitch, tickLfo, tickSmooth]
@[simp] theorem tickFree_osc (s : State) : (tickFree s).osc = s.osc := by
  simp [tickFree, tickCoef, tickPitch, tickLfo, tickSmooth]
@[simp] theorem tickFree_oscCtl (s : State) : (tickFree s).oscCtl = s.oscCtl := by
  simp [tickFree, tickCoef, tickPitch, tickLfo, tickSmooth]
@[simp] theorem tickFree_tuning (s : State) : (tickFree s).tuning = s.tuning := by
  simp [tickFree, tickCoef, tickPitch, tickLfo, tickSmooth]
@[simp] theorem tickFree_mode (s : State) : (tickFree s).mode = s.mode := by
  simp [tickFree, tickCoef, tickPitch, tickLfo, tickSmooth]
@[simp] theorem tickFree_hist (s : State) : (tickFree s).hist = s.hist := by
  simp [tickFree, tickCoef, tickPitch, tickLfo, tickSmooth]
@[simp] theorem tickFree_env (s : State) : (tickFree s).env = s.env := by
  simp [tickFree, tickCoef, tickPitch, tickLfo, tickSmooth]
@[simp] theorem tickFree_envCtl (s : State) : (tickFree s).envCtl = s.envCtl := by
  simp [tickFree, tickCoef, tickPitch, tickLfo, tickSmooth]
@[simp] theorem tickFree_counters (s : State) : (tickFree s).counters = s.counters := by
  simp [tickFree, tickCoef, tickPitch, tickLfo, tickSmooth]
@[simp] theorem tickFree_flags (s : State) : (tickFree s).flags = s.flags := by
  simp [tickFree, tickCoef, tickPitch, tickLfo, tickSmooth]
@[simp] theorem tickFree_irqEn (s : State) : (tickFree s).irqEn = s.irqEn := by
  simp [tickFree, tickCoef, tickPitch, tickLfo, tickSmooth]
@[simp] theorem tickFree_irqPend (s : State) : (tickFree s).irqPend = s.irqPend := by
  simp [tickFree, tickCoef, tickPitch, tickLfo, tickSmooth]
@[simp] theorem tickFree_rdata (s : State) : (tickFree s).rdata = s.rdata := by
  simp [tickFree, tickCoef, tickPitch, tickLfo, tickSmooth]
@[simp] theorem tickFree_ops (s : State) : (tickFree s).ops = s.ops := by
  simp [tickFree, tickCoef, tickPitch, tickLfo, tickSmooth]
@[simp] theorem tickFree_out (s : State) : (tickFree s).out = s.out := by
  simp [tickFree, tickCoef, tickPitch, tickLfo, tickSmooth]
@[simp] theorem tickFree_slots (s : State) : (tickFree s).slots = smoothAll s.slots := by
  simp [tickFree, tickCoef, tickPitch, tickLfo, tickSmooth]

theorem curOf_tickFree (i : Slot) (s : State) : curOf i (tickFree s) = slotValue i (smoothSlot i (s.slots.get i)).cur := by
  simp [curOf, smoothAll_get]

theorem tickFree_lfo (s : State) :
    (tickFree s).lfo =
      { s.lfo with
        value := BitVec.ofInt 25 (tickLv s)
        phase := u32 (wrap32 (s.lfo.phase.toNat + curOf .lfoRate (tickFree s))) } := by
  simp [tickFree, tickCoef, tickPitch, tickLfo, tickSmooth, curOf, tickLv]

theorem tickFree_ftw (s : State) :
    (tickFree s).ftw =
      let pA := pitchA s.voice.note.toNat (curOf .bend (tickFree s)) (curOf .depthPitch (tickFree s)) (tickLv s)
      { a := u32 (p2f s.tuning.a4Ftw.toNat s.tuning.ftwMin.toNat pA)
        b := u32 (p2f s.tuning.a4Ftw.toNat s.tuning.ftwMin.toNat (pitchB pA (curOf .detune (tickFree s)))) } := by
  simp [tickFree, tickCoef, tickPitch, tickLfo, tickSmooth, curOf, tickLv]

theorem tickFree_coef (s : State) :
    (tickFree s).coef =
      (coefValues s.mode
        (cutoffEff (curOf .cutoff (tickFree s)) (curOf .depthCut (tickFree s)) (tickLv s))
        (curOf .res (tickFree s))).store := by
  simp [tickFree, tickCoef, tickPitch, tickLfo, tickSmooth, curOf, tickLv]

/-! The two cases of TICK. -/

/-- The mix of an active TICK. -/
abbrev mixOf (s : State) : Int := tickMix (tickFree s)

/-- The output sample of an active TICK. -/
abbrev sampleOf (s : State) : Int := tickSample (mixOf s) (tickGain (tickLv s) (tickFree s)) (tickFree s)

/-- TICK while IDLE: the voice path is gated and the output is 0 (spec/43_tick.md R139). -/
theorem tick_idle {s : State} (h : s.voice.stage = .idle) :
    tick s =
      { tickFree s with
        out := 0#24
        counters := { s.counters with scount := s.counters.scount + 1#64 } } := by
  simp only [tick, tickVoice, tickFree_voice, if_pos h]; rfl

/-- TICK of an active voice. -/
theorem tick_active {s : State} (h : s.voice.stage ≠ .idle) :
    tick s =
      { tickFree s with
        osc :=
          { a := u32 (wrap32 (s.osc.a.toNat + (tickFree s).ftw.a.toNat))
            b := u32 (wrap32 (s.osc.b.toNat + (tickFree s).ftw.b.toNat)) }
        hist := biquadHist (tickFree s).coef s.hist (mixOf s)
        voice := { s.voice with stage := (envOf s).stage }
        env := { level := BitVec.ofInt 25 (envOf s).level, elapsed := BitVec.ofInt 32 (envOf s).elapsed }
        flags := if biquadSat (tickFree s).coef s.hist (mixOf s) then s.flags ||| (1#4 <<< Flag.sat.bit) else s.flags
        irqPend := s.irqPend || (envOf s).ended
        out := BitVec.ofInt 24 (sampleOf s)
        counters := { s.counters with scount := s.counters.scount + 1#64 } } := by
  simp only [tick, tickVoice, tickFree_voice, if_neg h, tickActive, tickFilter, setFlagIf_eq, envelopeStep_eq]; rfl

/-! What every TICK leaves, whichever case. -/

theorem tick_cases (s : State) :
    tick s = tickCount ((tickFree s).setOut 0#24) ∨
      tick s = tickCount ((tickActive (mixOf s) (tickFree s)).setOut (BitVec.ofInt 24 (sampleOf s))) := by
  by_cases h : (tickFree s).voice.stage = .idle
  · left; simp only [tick, tickVoice, if_pos h]
  · right; simp only [tick, tickVoice, if_neg h, tickLv_smooth]

@[simp] theorem tick_note (s : State) : (tick s).voice.note = s.voice.note := by
  by_cases h : s.voice.stage = .idle <;> simp [tick_idle, tick_active, h]
@[simp] theorem tick_vel (s : State) : (tick s).voice.vel = s.voice.vel := by
  by_cases h : s.voice.stage = .idle <;> simp [tick_idle, tick_active, h]
@[simp] theorem tick_ftw (s : State) : (tick s).ftw = (tickFree s).ftw := by
  by_cases h : s.voice.stage = .idle <;> simp [tick_idle, tick_active, h]
@[simp] theorem tick_oscCtl (s : State) : (tick s).oscCtl = s.oscCtl := by
  by_cases h : s.voice.stage = .idle <;> simp [tick_idle, tick_active, h]
@[simp] theorem tick_tuning (s : State) : (tick s).tuning = s.tuning := by
  by_cases h : s.voice.stage = .idle <;> simp [tick_idle, tick_active, h]
@[simp] theorem tick_mode (s : State) : (tick s).mode = s.mode := by
  by_cases h : s.voice.stage = .idle <;> simp [tick_idle, tick_active, h]
@[simp] theorem tick_coef (s : State) : (tick s).coef = (tickFree s).coef := by
  by_cases h : s.voice.stage = .idle <;> simp [tick_idle, tick_active, h]
@[simp] theorem tick_lfo (s : State) : (tick s).lfo = (tickFree s).lfo := by
  by_cases h : s.voice.stage = .idle <;> simp [tick_idle, tick_active, h]
@[simp] theorem tick_envCtl (s : State) : (tick s).envCtl = s.envCtl := by
  by_cases h : s.voice.stage = .idle <;> simp [tick_idle, tick_active, h]
@[simp] theorem tick_slots (s : State) : (tick s).slots = smoothAll s.slots := by
  by_cases h : s.voice.stage = .idle <;> simp [tick_idle, tick_active, h]
@[simp] theorem tick_counters (s : State) :
    (tick s).counters = { s.counters with scount := s.counters.scount + 1#64 } := by
  by_cases h : s.voice.stage = .idle <;> simp [tick_idle, tick_active, h]
@[simp] theorem tick_irqEn (s : State) : (tick s).irqEn = s.irqEn := by
  by_cases h : s.voice.stage = .idle <;> simp [tick_idle, tick_active, h]
@[simp] theorem tick_rdata (s : State) : (tick s).rdata = s.rdata := by
  by_cases h : s.voice.stage = .idle <;> simp [tick_idle, tick_active, h]
@[simp] theorem tick_ops (s : State) : (tick s).ops = s.ops := by
  by_cases h : s.voice.stage = .idle <;> simp [tick_idle, tick_active, h]

theorem curOf_tick (i : Slot) (s : State) : curOf i (tick s) = curOf i (tickFree s) := by simp [curOf]

/-- The LFO value always fits its 25 bits. -/
theorem tickLv_range (s : State) : -2 ^ 23 ≤ tickLv s ∧ tickLv s ≤ 2 ^ 23 := by
  have := s.lfo.phase.isLt
  exact lfoWave_range _ (by omega) (by omega)

end Sys2Proof.Machine
end

