-- ==== Sys2Proof/Laws/Exec.lean ====
section
/-! SUPPORT. What an operation can do, said once: the next state of every operation, by its kind.  A claim about every
operation is a case analysis of `Effect`. -/

namespace Sys2Proof.Machine

/-- The READs that change nothing but the value returned: all but SCOUNT_LO and the bad ones. -/
def plainRead (i : Instr) : Bool :=
  match i with
  | .rdId | .rdCmd | .rdStatus | .rdFlags | .rdIrqEn | .rdIrqPend | .rdOscCtrl | .rdFiltCtrl | .rdLfoCtrl | .rdA4Ftw
  | .rdFtwMin | .rdEnvAttack | .rdEnvDecay | .rdEnvSustain | .rdEnvRelease | .rdEnvFloor | .rdScountHi | .rdStartLo
  | .rdStartHi | .rdOut | .rdEnvLevel | .rdEnvElapsed | .rdPhaseA | .rdPhaseB | .rdLfoPhase | .rdLfoValue | .rdFtwA
  | .rdFtwB | .rdCoefB0 | .rdCoefB1 | .rdCoefB2 | .rdCoefA1 | .rdCoefA2 | .rdHistX1 | .rdHistX2 | .rdHistY1 | .rdHistY2
  | .rdTargetBend | .rdTargetDetune | .rdTargetMix | .rdTargetCutoff | .rdTargetRes | .rdTargetGain | .rdTargetLfoRate
  | .rdTargetDepthPitch | .rdTargetDepthCut | .rdTargetDepthAmp | .rdCurrentBend | .rdCurrentDetune | .rdCurrentMix
  | .rdCurrentCutoff | .rdCurrentRes | .rdCurrentGain | .rdCurrentLfoRate | .rdCurrentDepthPitch | .rdCurrentDepthCut
  | .rdCurrentDepthAmp | .rdSmcfgBend | .rdSmcfgDetune | .rdSmcfgMix | .rdSmcfgCutoff | .rdSmcfgRes | .rdSmcfgGain
  | .rdSmcfgLfoRate | .rdSmcfgDepthPitch | .rdSmcfgDepthCut | .rdSmcfgDepthAmp => true
  | _ => false

/-- The reserved commands. -/
def reservedCommand (i : Instr) : Bool :=
  match i with
  | .cmdReserved04To07 _ _ | .cmdReserved08To0F _ _ | .cmdReserved10To1F _ _ | .cmdReserved20To3F _ _
  | .cmdReserved40To7F _ _ | .cmdReserved80ToFF _ _ => true
  | _ => false

/-- The next state of every operation from s, by kind. -/
inductive Effect (s : State) : Instr → State → Prop
  | read {i : Instr} (v : Word) (h : plainRead i = true) : Effect s i { s with rdata := some v }
  | scountLo : Effect s .rdScountLo
      { s with
        rdata := some (s.counters.scount.extractLsb' 0 32)
        counters := { s.counters with shadow := s.counters.scount.extractLsb' 32 32 } }
  | rdBad (a : Addr) : Effect s (.rdBad a) { s with flags := s.flags ||| 0x8#4, rdata := some 0#32 }
  | wrBad (a : Addr) (d : Word) : Effect s (.wrBad a d) { s with flags := s.flags ||| 0x8#4 }
  | wrFlags (d : Word) : Effect s (.wrFlags d) { s with flags := s.flags &&& ~~~(d.extractLsb' 0 4) }
  | wrIrqEn (d : Word) : Effect s (.wrIrqEn d) { s with irqEn := d.getLsbD 0 }
  | wrIrqPend (d : Word) : Effect s (.wrIrqPend d) { s with irqPend := s.irqPend && !d.getLsbD 0 }
  | wrOscCtrl (d : Word) : Effect s (.wrOscCtrl d) { s with oscCtl := oscCtrlOf d }
  | wrFiltCtrl (d : Word) : Effect s (.wrFiltCtrl d) { s with mode := .ofCode (d.extractLsb' 0 2) }
  | wrLfoCtrl (d : Word) : Effect s (.wrLfoCtrl d)
      { s with lfo := { s.lfo with shape := .ofCode (d.extractLsb' 0 2) } }
  | wrA4Ftw (d v : Word) (f : BitVec 4) (hv : v = u32 (clamp d.toNat 1 (2 ^ 31 - 1))) (hf : f = clampFlags d.toNat 1 (2 ^ 31 - 1) s.flags) :
      Effect s (.wrA4Ftw d) { s with tuning := { s.tuning with a4Ftw := v }, flags := f }
  | wrFtwMin (d v : Word) (f : BitVec 4) (hv : v = u32 (clamp d.toNat 1 (2 ^ 31 - 1))) (hf : f = clampFlags d.toNat 1 (2 ^ 31 - 1) s.flags) :
      Effect s (.wrFtwMin d) { s with tuning := { s.tuning with ftwMin := v }, flags := f }
  | wrEnvAttack (d : Word) (v : BitVec 24) (f : BitVec 4) (hv : v = (u32 (clamp d.toNat 1 (2 ^ 23))).setWidth 24)
      (hf : f = clampFlags d.toNat 1 (2 ^ 23) s.flags) :
      Effect s (.wrEnvAttack d) { s with envCtl := { s.envCtl with att := v }, flags := f }
  | wrEnvDecay (d : Word) (v : BitVec 24) (f : BitVec 4) (hv : v = (u32 (clamp d.toNat 1 (2 ^ 23))).setWidth 24)
      (hf : f = clampFlags d.toNat 1 (2 ^ 23) s.flags) :
      Effect s (.wrEnvDecay d) { s with envCtl := { s.envCtl with dec := v }, flags := f }
  | wrEnvSustain (d : Word) (v : BitVec 24) (f : BitVec 4) (hv : v = (u32 (clamp d.toNat 0 (2 ^ 23))).setWidth 24)
      (hf : f = clampFlags d.toNat 0 (2 ^ 23) s.flags) :
      Effect s (.wrEnvSustain d) { s with envCtl := { s.envCtl with sus := v }, flags := f }
  | wrEnvRelease (d : Word) (v : BitVec 24) (f : BitVec 4) (hv : v = (u32 (clamp d.toNat 1 (2 ^ 23))).setWidth 24)
      (hf : f = clampFlags d.toNat 1 (2 ^ 23) s.flags) :
      Effect s (.wrEnvRelease d) { s with envCtl := { s.envCtl with rel := v }, flags := f }
  | wrEnvFloor (d : Word) (v : BitVec 24) (f : BitVec 4) (hv : v = (u32 (clamp d.toNat 0 (2 ^ 23))).setWidth 24)
      (hf : f = clampFlags d.toNat 0 (2 ^ 23) s.flags) :
      Effect s (.wrEnvFloor d) { s with envCtl := { s.envCtl with floor := v }, flags := f }
  | wrTarget (i : Slot) (d v : Word) (f : BitVec 4) (hv : v = u32 (clamp (slotValue i d) (slotRow i).lo (slotRow i).hi))
      (hf : f = clampFlags (slotValue i d) (slotRow i).lo (slotRow i).hi s.flags) :
      Effect s (.wrTarget i d) { s with slots := s.slots.set i { s.slots.get i with tgt := v }, flags := f }
  | wrSmcfg (i : Slot) (d : Word) : Effect s (.wrSmcfg i d)
      { s with slots := s.slots.set i { s.slots.get i with shift := d.extractLsb' 0 5, maxstep := d.extractLsb' 8 24 } }
  | nop (x : BitVec 24) : Effect s (.nop x) s
  | reserved {i : Instr} (h : reservedCommand i = true) : Effect s i { s with flags := s.flags ||| 0x4#4 }
  | noteOn (x : BitVec 9) (note : BitVec 7) (x7 : BitVec 1) (vel : BitVec 7) : Effect s (.noteOn x note x7 vel)
      { s with
        voice := { stage := .attack, note := note, vel := vel }
        env := { level := 0#25, elapsed := 0#32 }
        counters := { s.counters with start := s.counters.scount }
        osc := if s.oscCtl.freeRun then s.osc else .zero
        hist := .cleared }
  | noteOff (x : BitVec 9) (note : BitVec 7) (y : BitVec 8) (h : releases note s.voice = true) :
      Effect s (.noteOff x note y)
        { s with voice := { s.voice with stage := .release }, env := { s.env with elapsed := 0#32 } }
  | noteOffIgnored (x : BitVec 9) (note : BitVec 7) (y : BitVec 8) (h : releases note s.voice = false) :
      Effect s (.noteOff x note y) s
  | voiceReset (x : BitVec 24) : Effect s (.voiceReset x)
      { s with
        voice := { s.voice with stage := .idle }
        env := { level := 0#25, elapsed := 0#32 }
        osc := .zero
        hist := .cleared }
  | tick : Effect s .tick (tick s)
  | reset : Effect s .reset (State.reset.setOps s.ops)

/-- The CLAMP flag of a WARL write. -/
theorem warl_flags {x lo hi : Int} (h : lo ≤ hi) (s : State) :
    (setFlagIf (clamp x lo hi != x) .clamp s) = { s with flags := clampFlags x lo hi s.flags } := by
  rw [setFlagIf_eq]
  unfold clampFlags
  by_cases hr : lo ≤ x ∧ x ≤ hi
  · rw [if_pos hr, clamp_eq_self hr.1 hr.2]; simp
  · rw [if_neg hr, if_pos ((clamped_iff h).2 (by omega))]; rfl

theorem exec_wrTarget (i : Slot) (d : Word) (s : State) : exec (.wrTarget i d) s = writeTarget i d s := by cases i <;> rfl

theorem exec_wrSmcfg (i : Slot) (d : Word) (s : State) : exec (.wrSmcfg i d) s = writeSmcfg i d s := by cases i <;> rfl

theorem exec_rdTarget (i : Slot) (s : State) : exec (.rdTarget i) s = readTarget i s := by cases i <;> rfl

theorem exec_rdCurrent (i : Slot) (s : State) : exec (.rdCurrent i) s = readCurrent i s := by cases i <;> rfl

theorem exec_rdSmcfg (i : Slot) (s : State) : exec (.rdSmcfg i) s = readSmcfg i s := by cases i <;> rfl

theorem writeTarget_effect (i : Slot) (d : Word) (s : State) :
    ∃ t, writeTarget i d s = .next t ∧ Effect s (.wrTarget i d) t :=
  ⟨_, by rw [writeTarget, warl_eq, warl_flags (slotRow_lo_le_hi i)]; rfl, .wrTarget i d _ _ rfl rfl⟩

theorem writeSmcfg_effect (i : Slot) (d : Word) (s : State) :
    ∃ t, writeSmcfg i d s = .next t ∧ Effect s (.wrSmcfg i d) t := ⟨_, rfl, .wrSmcfg i d⟩

theorem noteOff_effect (x : BitVec 9) (note : BitVec 7) (y : BitVec 8) (s : State) :
    ∃ t, execNoteOff note s = .next t ∧ Effect s (.noteOff x note y) t := by
  cases h : releases note s.voice
  · exact ⟨s, by rw [execNoteOff, h]; rfl, .noteOffIgnored x note y h⟩
  · exact ⟨_, by rw [execNoteOff, h]; rfl, .noteOff x note y h⟩

/-- Every operation completes, with the effect of its kind. -/
theorem exec_effect (i : Instr) (s : State) : ∃ t, exec i s = .next t ∧ Effect s i t := by
  cases i
  case tick => exact ⟨tick s, rfl, .tick⟩
  case reset => exact ⟨_, rfl, .reset⟩
  case rdScountLo => exact ⟨_, rfl, .scountLo⟩
  case rdBad a => exact ⟨_, rfl, .rdBad a⟩
  case wrBad a d => exact ⟨_, rfl, .wrBad a d⟩
  case wrFlags d => exact ⟨_, rfl, .wrFlags d⟩
  case wrIrqEn d => exact ⟨_, rfl, .wrIrqEn d⟩
  case wrIrqPend d => exact ⟨_, rfl, .wrIrqPend d⟩
  case wrOscCtrl d => exact ⟨_, rfl, .wrOscCtrl d⟩
  case wrFiltCtrl d => exact ⟨_, rfl, .wrFiltCtrl d⟩
  case wrLfoCtrl d => exact ⟨_, rfl, .wrLfoCtrl d⟩
  case wrA4Ftw d => exact ⟨_, by rw [exec, execWrA4Ftw, warl_eq, warl_flags (by norm_num)]; rfl, .wrA4Ftw d _ _ rfl rfl⟩
  case wrFtwMin d => exact ⟨_, by rw [exec, execWrFtwMin, warl_eq, warl_flags (by norm_num)]; rfl, .wrFtwMin d _ _ rfl rfl⟩
  case wrEnvAttack d => exact ⟨_, by rw [exec, execWrEnvAttack, warl_eq, warl_flags (by norm_num)]; rfl, .wrEnvAttack d _ _ rfl rfl⟩
  case wrEnvDecay d => exact ⟨_, by rw [exec, execWrEnvDecay, warl_eq, warl_flags (by norm_num)]; rfl, .wrEnvDecay d _ _ rfl rfl⟩
  case wrEnvSustain d => exact ⟨_, by rw [exec, execWrEnvSustain, warl_eq, warl_flags (by norm_num)]; rfl, .wrEnvSustain d _ _ rfl rfl⟩
  case wrEnvRelease d => exact ⟨_, by rw [exec, execWrEnvRelease, warl_eq, warl_flags (by norm_num)]; rfl, .wrEnvRelease d _ _ rfl rfl⟩
  case wrEnvFloor d => exact ⟨_, by rw [exec, execWrEnvFloor, warl_eq, warl_flags (by norm_num)]; rfl, .wrEnvFloor d _ _ rfl rfl⟩
  case wrTargetBend d => exact writeTarget_effect .bend d s
  case wrTargetDetune d => exact writeTarget_effect .detune d s
  case wrTargetMix d => exact writeTarget_effect .mix d s
  case wrTargetCutoff d => exact writeTarget_effect .cutoff d s
  case wrTargetRes d => exact writeTarget_effect .res d s
  case wrTargetGain d => exact writeTarget_effect .gain d s
  case wrTargetLfoRate d => exact writeTarget_effect .lfoRate d s
  case wrTargetDepthPitch d => exact writeTarget_effect .depthPitch d s
  case wrTargetDepthCut d => exact writeTarget_effect .depthCut d s
  case wrTargetDepthAmp d => exact writeTarget_effect .depthAmp d s
  case wrSmcfgBend d => exact writeSmcfg_effect .bend d s
  case wrSmcfgDetune d => exact writeSmcfg_effect .detune d s
  case wrSmcfgMix d => exact writeSmcfg_effect .mix d s
  case wrSmcfgCutoff d => exact writeSmcfg_effect .cutoff d s
  case wrSmcfgRes d => exact writeSmcfg_effect .res d s
  case wrSmcfgGain d => exact writeSmcfg_effect .gain d s
  case wrSmcfgLfoRate d => exact writeSmcfg_effect .lfoRate d s
  case wrSmcfgDepthPitch d => exact writeSmcfg_effect .depthPitch d s
  case wrSmcfgDepthCut d => exact writeSmcfg_effect .depthCut d s
  case wrSmcfgDepthAmp d => exact writeSmcfg_effect .depthAmp d s
  case nop x => exact ⟨s, rfl, .nop x⟩
  case noteOn x note x7 vel => exact ⟨_, rfl, .noteOn x note x7 vel⟩
  case noteOff x note y => exact noteOff_effect x note y s
  case voiceReset x => exact ⟨_, rfl, .voiceReset x⟩
  case cmdReserved04To07 => exact ⟨_, rfl, .reserved rfl⟩
  case cmdReserved08To0F => exact ⟨_, rfl, .reserved rfl⟩
  case cmdReserved10To1F => exact ⟨_, rfl, .reserved rfl⟩
  case cmdReserved20To3F => exact ⟨_, rfl, .reserved rfl⟩
  case cmdReserved40To7F => exact ⟨_, rfl, .reserved rfl⟩
  case cmdReserved80ToFF => exact ⟨_, rfl, .reserved rfl⟩
  all_goals exact ⟨_, rfl, .read _ rfl⟩

/-- The effect of an operation known to have answered t. -/
theorem effect_of_exec {i : Instr} {s t : State} (h : exec i s = .next t) : Effect s i t := by
  obtain ⟨u, hu, he⟩ := exec_effect i s
  rw [h] at hu; cases hu; exact he

/-- No operation issues or withdraws an operation. -/
theorem Effect.ops {s t : State} {i : Instr} (h : Effect s i t) : t.ops = s.ops := by
  cases h <;> first | rfl | exact tick_ops s

end Sys2Proof.Machine
end

