-- ==== Sys2Proof/Laws/PerInstr.lean ====
section
/-! SUPPORT. Facts about every instruction as syntax, one lemma a constructor. -/

/-- RoundTrip: the decoder reads a well-formed instruction back from the word the encoder gives it. -/
def Sys2Proof.Laws.RoundTrip.Statement (i : Sys2Proof.Instr) : Prop :=
  i.wf = true → Sys2Proof.decode (Sys2Proof.encode i) = .ok i

namespace Sys2Proof.Laws.RoundTrip

theorem rdId : Statement .rdId := fun _ => decode_readWord 0x000#9

theorem rdCmd : Statement .rdCmd := fun _ => decode_readWord 0x004#9

theorem rdStatus : Statement .rdStatus := fun _ => decode_readWord 0x008#9

theorem rdFlags : Statement .rdFlags := fun _ => decode_readWord 0x00C#9

theorem wrFlags (data : Word) : Statement (.wrFlags data) := fun _ => decode_writeWord 0x00C#9 data

theorem rdIrqEn : Statement .rdIrqEn := fun _ => decode_readWord 0x010#9

theorem wrIrqEn (data : Word) : Statement (.wrIrqEn data) := fun _ => decode_writeWord 0x010#9 data

theorem rdIrqPend : Statement .rdIrqPend := fun _ => decode_readWord 0x014#9

theorem wrIrqPend (data : Word) : Statement (.wrIrqPend data) := fun _ => decode_writeWord 0x014#9 data

theorem rdOscCtrl : Statement .rdOscCtrl := fun _ => decode_readWord 0x018#9

theorem wrOscCtrl (data : Word) : Statement (.wrOscCtrl data) := fun _ => decode_writeWord 0x018#9 data

theorem rdFiltCtrl : Statement .rdFiltCtrl := fun _ => decode_readWord 0x01C#9

theorem wrFiltCtrl (data : Word) : Statement (.wrFiltCtrl data) := fun _ => decode_writeWord 0x01C#9 data

theorem rdLfoCtrl : Statement .rdLfoCtrl := fun _ => decode_readWord 0x020#9

theorem wrLfoCtrl (data : Word) : Statement (.wrLfoCtrl data) := fun _ => decode_writeWord 0x020#9 data

theorem rdA4Ftw : Statement .rdA4Ftw := fun _ => decode_readWord 0x024#9

theorem wrA4Ftw (data : Word) : Statement (.wrA4Ftw data) := fun _ => decode_writeWord 0x024#9 data

theorem rdFtwMin : Statement .rdFtwMin := fun _ => decode_readWord 0x028#9

theorem wrFtwMin (data : Word) : Statement (.wrFtwMin data) := fun _ => decode_writeWord 0x028#9 data

theorem rdEnvAttack : Statement .rdEnvAttack := fun _ => decode_readWord 0x02C#9

theorem wrEnvAttack (data : Word) : Statement (.wrEnvAttack data) := fun _ => decode_writeWord 0x02C#9 data

theorem rdEnvDecay : Statement .rdEnvDecay := fun _ => decode_readWord 0x030#9

theorem wrEnvDecay (data : Word) : Statement (.wrEnvDecay data) := fun _ => decode_writeWord 0x030#9 data

theorem rdEnvSustain : Statement .rdEnvSustain := fun _ => decode_readWord 0x034#9

theorem wrEnvSustain (data : Word) : Statement (.wrEnvSustain data) := fun _ => decode_writeWord 0x034#9 data

theorem rdEnvRelease : Statement .rdEnvRelease := fun _ => decode_readWord 0x038#9

theorem wrEnvRelease (data : Word) : Statement (.wrEnvRelease data) := fun _ => decode_writeWord 0x038#9 data

theorem rdEnvFloor : Statement .rdEnvFloor := fun _ => decode_readWord 0x03C#9

theorem wrEnvFloor (data : Word) : Statement (.wrEnvFloor data) := fun _ => decode_writeWord 0x03C#9 data

theorem rdScountLo : Statement .rdScountLo := fun _ => decode_readWord 0x040#9

theorem rdScountHi : Statement .rdScountHi := fun _ => decode_readWord 0x044#9

theorem rdStartLo : Statement .rdStartLo := fun _ => decode_readWord 0x048#9

theorem rdStartHi : Statement .rdStartHi := fun _ => decode_readWord 0x04C#9

theorem rdOut : Statement .rdOut := fun _ => decode_readWord 0x050#9

theorem rdEnvLevel : Statement .rdEnvLevel := fun _ => decode_readWord 0x054#9

theorem rdEnvElapsed : Statement .rdEnvElapsed := fun _ => decode_readWord 0x058#9

theorem rdPhaseA : Statement .rdPhaseA := fun _ => decode_readWord 0x05C#9

theorem rdPhaseB : Statement .rdPhaseB := fun _ => decode_readWord 0x060#9

theorem rdLfoPhase : Statement .rdLfoPhase := fun _ => decode_readWord 0x064#9

theorem rdLfoValue : Statement .rdLfoValue := fun _ => decode_readWord 0x068#9

theorem rdFtwA : Statement .rdFtwA := fun _ => decode_readWord 0x06C#9

theorem rdFtwB : Statement .rdFtwB := fun _ => decode_readWord 0x070#9

theorem rdCoefB0 : Statement .rdCoefB0 := fun _ => decode_readWord 0x140#9

theorem rdCoefB1 : Statement .rdCoefB1 := fun _ => decode_readWord 0x144#9

theorem rdCoefB2 : Statement .rdCoefB2 := fun _ => decode_readWord 0x148#9

theorem rdCoefA1 : Statement .rdCoefA1 := fun _ => decode_readWord 0x14C#9

theorem rdCoefA2 : Statement .rdCoefA2 := fun _ => decode_readWord 0x150#9

theorem rdHistX1 : Statement .rdHistX1 := fun _ => decode_readWord 0x154#9

theorem rdHistX2 : Statement .rdHistX2 := fun _ => decode_readWord 0x158#9

theorem rdHistY1 : Statement .rdHistY1 := fun _ => decode_readWord 0x15C#9

theorem rdHistY2 : Statement .rdHistY2 := fun _ => decode_readWord 0x160#9

theorem rdTargetBend : Statement .rdTargetBend := fun _ => decode_readWord 0x080#9

theorem wrTargetBend (data : Word) : Statement (.wrTargetBend data) := fun _ => decode_writeWord 0x080#9 data

theorem rdCurrentBend : Statement .rdCurrentBend := fun _ => decode_readWord 0x0C0#9

theorem rdSmcfgBend : Statement .rdSmcfgBend := fun _ => decode_readWord 0x100#9

theorem wrSmcfgBend (data : Word) : Statement (.wrSmcfgBend data) := fun _ => decode_writeWord 0x100#9 data

theorem rdTargetDetune : Statement .rdTargetDetune := fun _ => decode_readWord 0x084#9

theorem wrTargetDetune (data : Word) : Statement (.wrTargetDetune data) := fun _ => decode_writeWord 0x084#9 data

theorem rdCurrentDetune : Statement .rdCurrentDetune := fun _ => decode_readWord 0x0C4#9

theorem rdSmcfgDetune : Statement .rdSmcfgDetune := fun _ => decode_readWord 0x104#9

theorem wrSmcfgDetune (data : Word) : Statement (.wrSmcfgDetune data) := fun _ => decode_writeWord 0x104#9 data

theorem rdTargetMix : Statement .rdTargetMix := fun _ => decode_readWord 0x088#9

theorem wrTargetMix (data : Word) : Statement (.wrTargetMix data) := fun _ => decode_writeWord 0x088#9 data

theorem rdCurrentMix : Statement .rdCurrentMix := fun _ => decode_readWord 0x0C8#9

theorem rdSmcfgMix : Statement .rdSmcfgMix := fun _ => decode_readWord 0x108#9

theorem wrSmcfgMix (data : Word) : Statement (.wrSmcfgMix data) := fun _ => decode_writeWord 0x108#9 data

theorem rdTargetCutoff : Statement .rdTargetCutoff := fun _ => decode_readWord 0x08C#9

theorem wrTargetCutoff (data : Word) : Statement (.wrTargetCutoff data) := fun _ => decode_writeWord 0x08C#9 data

theorem rdCurrentCutoff : Statement .rdCurrentCutoff := fun _ => decode_readWord 0x0CC#9

theorem rdSmcfgCutoff : Statement .rdSmcfgCutoff := fun _ => decode_readWord 0x10C#9

theorem wrSmcfgCutoff (data : Word) : Statement (.wrSmcfgCutoff data) := fun _ => decode_writeWord 0x10C#9 data

theorem rdTargetRes : Statement .rdTargetRes := fun _ => decode_readWord 0x090#9

theorem wrTargetRes (data : Word) : Statement (.wrTargetRes data) := fun _ => decode_writeWord 0x090#9 data

theorem rdCurrentRes : Statement .rdCurrentRes := fun _ => decode_readWord 0x0D0#9

theorem rdSmcfgRes : Statement .rdSmcfgRes := fun _ => decode_readWord 0x110#9

theorem wrSmcfgRes (data : Word) : Statement (.wrSmcfgRes data) := fun _ => decode_writeWord 0x110#9 data

theorem rdTargetGain : Statement .rdTargetGain := fun _ => decode_readWord 0x094#9

theorem wrTargetGain (data : Word) : Statement (.wrTargetGain data) := fun _ => decode_writeWord 0x094#9 data

theorem rdCurrentGain : Statement .rdCurrentGain := fun _ => decode_readWord 0x0D4#9

theorem rdSmcfgGain : Statement .rdSmcfgGain := fun _ => decode_readWord 0x114#9

theorem wrSmcfgGain (data : Word) : Statement (.wrSmcfgGain data) := fun _ => decode_writeWord 0x114#9 data

theorem rdTargetLfoRate : Statement .rdTargetLfoRate := fun _ => decode_readWord 0x098#9

theorem wrTargetLfoRate (data : Word) : Statement (.wrTargetLfoRate data) := fun _ => decode_writeWord 0x098#9 data

theorem rdCurrentLfoRate : Statement .rdCurrentLfoRate := fun _ => decode_readWord 0x0D8#9

theorem rdSmcfgLfoRate : Statement .rdSmcfgLfoRate := fun _ => decode_readWord 0x118#9

theorem wrSmcfgLfoRate (data : Word) : Statement (.wrSmcfgLfoRate data) := fun _ => decode_writeWord 0x118#9 data

theorem rdTargetDepthPitch : Statement .rdTargetDepthPitch := fun _ => decode_readWord 0x09C#9

theorem wrTargetDepthPitch (data : Word) : Statement (.wrTargetDepthPitch data) := fun _ => decode_writeWord 0x09C#9 data

theorem rdCurrentDepthPitch : Statement .rdCurrentDepthPitch := fun _ => decode_readWord 0x0DC#9

theorem rdSmcfgDepthPitch : Statement .rdSmcfgDepthPitch := fun _ => decode_readWord 0x11C#9

theorem wrSmcfgDepthPitch (data : Word) : Statement (.wrSmcfgDepthPitch data) := fun _ => decode_writeWord 0x11C#9 data

theorem rdTargetDepthCut : Statement .rdTargetDepthCut := fun _ => decode_readWord 0x0A0#9

theorem wrTargetDepthCut (data : Word) : Statement (.wrTargetDepthCut data) := fun _ => decode_writeWord 0x0A0#9 data

theorem rdCurrentDepthCut : Statement .rdCurrentDepthCut := fun _ => decode_readWord 0x0E0#9

theorem rdSmcfgDepthCut : Statement .rdSmcfgDepthCut := fun _ => decode_readWord 0x120#9

theorem wrSmcfgDepthCut (data : Word) : Statement (.wrSmcfgDepthCut data) := fun _ => decode_writeWord 0x120#9 data

theorem rdTargetDepthAmp : Statement .rdTargetDepthAmp := fun _ => decode_readWord 0x0A4#9

theorem wrTargetDepthAmp (data : Word) : Statement (.wrTargetDepthAmp data) := fun _ => decode_writeWord 0x0A4#9 data

theorem rdCurrentDepthAmp : Statement .rdCurrentDepthAmp := fun _ => decode_readWord 0x0E4#9

theorem rdSmcfgDepthAmp : Statement .rdSmcfgDepthAmp := fun _ => decode_readWord 0x124#9

theorem wrSmcfgDepthAmp (data : Word) : Statement (.wrSmcfgDepthAmp data) := fun _ => decode_writeWord 0x124#9 data

theorem nop (x : BitVec 24) : Statement (.nop x) := fun _ => (decode_commandWord _ x).trans (congrArg _ (decodeCommand_nop x))

/-- The fields of a NOTE_ON word come back one by one. -/
theorem noteOn_fields (x : BitVec 9) (note : BitVec 7) (x7 : BitVec 1) (vel : BitVec 7) :
    decodeCommand (0x01#8 ++ (x ++ note ++ x7 ++ vel)) = .noteOn x note x7 vel := by
  have hx := x.isLt; have hn := note.isLt; have h7 := x7.isLt; have hv := vel.isLt
  have key : ∀ y : BitVec 24, y.toNat = x.toNat * 2 ^ 15 + note.toNat * 2 ^ 8 + x7.toNat * 2 ^ 7 + vel.toNat →
      decodeCommand (0x01#8 ++ y) = .noteOn x note x7 vel := by
    intro y hy
    simp only [decodeCommand, command_op, command_field 0x01#8 y (show 15 + 9 ≤ 24 by norm_num), command_field 0x01#8 y (show 8 + 7 ≤ 24 by norm_num), command_field 0x01#8 y (show 7 + 1 ≤ 24 by norm_num), command_field 0x01#8 y (show 0 + 7 ≤ 24 by norm_num)]
    rw [if_neg (by decide), if_pos trivial]
    congr 1 <;> apply BitVec.eq_of_toNat_eq <;>
      simp only [BitVec.extractLsb'_toNat, hy, Nat.shiftRight_eq_div_pow] <;> omega
  apply key
  simp only [BitVec.toNat_append, Nat.shiftLeft_eq]
  rw [Nat.mul_comm x.toNat, ← Nat.two_pow_add_eq_or_of_lt hn, Nat.mul_comm _ (2 ^ 1),
      ← Nat.two_pow_add_eq_or_of_lt h7, Nat.mul_comm _ (2 ^ 7), ← Nat.two_pow_add_eq_or_of_lt hv]
  omega

theorem noteOn (x : BitVec 9) (note : BitVec 7) (x7 : BitVec 1) (vel : BitVec 7) : Statement (.noteOn x note x7 vel) := fun _ =>
  (decode_commandWord _ _).trans (congrArg _ (noteOn_fields x note x7 vel))

/-- The fields of a NOTE_OFF word come back one by one. -/
theorem noteOff_fields (x : BitVec 9) (note : BitVec 7) (xlow : BitVec 8) :
    decodeCommand (0x02#8 ++ (x ++ note ++ xlow)) = .noteOff x note xlow := by
  have hx := x.isLt; have hn := note.isLt; have hl := xlow.isLt
  have key : ∀ y : BitVec 24, y.toNat = x.toNat * 2 ^ 15 + note.toNat * 2 ^ 8 + xlow.toNat →
      decodeCommand (0x02#8 ++ y) = .noteOff x note xlow := by
    intro y hy
    simp only [decodeCommand, command_op, command_field 0x02#8 y (show 15 + 9 ≤ 24 by norm_num), command_field 0x02#8 y (show 8 + 7 ≤ 24 by norm_num), command_field 0x02#8 y (show 0 + 8 ≤ 24 by norm_num)]
    rw [if_neg (by decide), if_neg (by decide), if_pos trivial]
    congr 1 <;> apply BitVec.eq_of_toNat_eq <;>
      simp only [BitVec.extractLsb'_toNat, hy, Nat.shiftRight_eq_div_pow] <;> omega
  apply key
  simp only [BitVec.toNat_append, Nat.shiftLeft_eq]
  rw [Nat.mul_comm x.toNat, ← Nat.two_pow_add_eq_or_of_lt hn, Nat.mul_comm _ (2 ^ 8),
      ← Nat.two_pow_add_eq_or_of_lt hl]
  omega

theorem noteOff (x : BitVec 9) (note : BitVec 7) (xlow : BitVec 8) : Statement (.noteOff x note xlow) := fun _ =>
  (decode_commandWord _ _).trans (congrArg _ (noteOff_fields x note xlow))

theorem voiceReset (x : BitVec 24) : Statement (.voiceReset x) := fun _ => (decode_commandWord _ x).trans (congrArg _ (decodeCommand_voiceReset x))

theorem cmdReserved04To07 (op : BitVec 8) (x : BitVec 24) : Statement (.cmdReserved04To07 op x) := fun h =>
  (decode_commandWord op x).trans (congrArg _ (decodeCommand_cmdReserved04To07 x (opIn_iff.1 h)))

theorem cmdReserved08To0F (op : BitVec 8) (x : BitVec 24) : Statement (.cmdReserved08To0F op x) := fun h =>
  (decode_commandWord op x).trans (congrArg _ (decodeCommand_cmdReserved08To0F x (opIn_iff.1 h)))

theorem cmdReserved10To1F (op : BitVec 8) (x : BitVec 24) : Statement (.cmdReserved10To1F op x) := fun h =>
  (decode_commandWord op x).trans (congrArg _ (decodeCommand_cmdReserved10To1F x (opIn_iff.1 h)))

theorem cmdReserved20To3F (op : BitVec 8) (x : BitVec 24) : Statement (.cmdReserved20To3F op x) := fun h =>
  (decode_commandWord op x).trans (congrArg _ (decodeCommand_cmdReserved20To3F x (opIn_iff.1 h)))

theorem cmdReserved40To7F (op : BitVec 8) (x : BitVec 24) : Statement (.cmdReserved40To7F op x) := fun h =>
  (decode_commandWord op x).trans (congrArg _ (decodeCommand_cmdReserved40To7F x (opIn_iff.1 h)))

theorem cmdReserved80ToFF (op : BitVec 8) (x : BitVec 24) : Statement (.cmdReserved80ToFF op x) := fun h =>
  (decode_commandWord op x).trans (congrArg _ (decodeCommand_cmdReserved80ToFF x (opIn_iff.1 h)))

theorem tick : Statement .tick := fun _ => decode_tickWord

theorem reset : Statement .reset := fun _ => decode_resetWord

theorem rdBad (addr : Addr) : Statement (.rdBad addr) := fun h =>
  (decode_readWord addr).trans (congrArg _ (decodeRead_unmapped addr (by simpa [Instr.wf] using h)))

theorem wrBad (addr : Addr) (data : Word) : Statement (.wrBad addr data) := fun h =>
  (decode_writeWord addr data).trans (congrArg _ (decodeWrite_unwritable addr data (by simpa [Instr.wf] using h)))

end Sys2Proof.Laws.RoundTrip
end

