-- ==== Sys2Proof/Laws/Step.lean ====
section
/-! SUPPORT. One step, and runs of the core and of sequences of operations, one operation at a time. -/

namespace Sys2Proof.Machine

@[simp] theorem exec_tick (s : State) : exec .tick s = .next (tick s) := rfl

theorem eq_tick_of_exec {s t : State} (h : exec .tick s = .next t) : t = tick s :=
  (Host.Outcome.next.inj ((exec_tick s).symm.trans h)).symm

@[simp] theorem exec_reset (s : State) : exec .reset s = .next (State.reset.setOps s.ops) := rfl

/-- The step of a state whose next word is an operation. -/
theorem step_cons {s : State} {t : TWord} {rest : List TWord} {i : Instr} (ho : s.ops = t :: rest) (hd : decode t = .ok i) :
    step s = exec i (beginOperation rest s) := by simp [step, nextOperation, ho, perform, hd]

theorem beginOperation_eq (rest : List TWord) (s : State) : beginOperation rest s = { s with ops := rest, rdata := none } := rfl

/-- A step either changes nothing, or is one operation at the state that begins it. -/
theorem step_next {s t : State} (h : step s = .next t) :
    (s.ops = [] ∧ t = s) ∨
      ∃ w rest i, s.ops = w :: rest ∧ decode w = .ok i ∧ exec i (beginOperation rest s) = .next t := by
  cases ho : s.ops with
  | nil => left; rw [step, nextOperation, ho] at h; cases h; exact ⟨rfl, rfl⟩
  | cons w rest =>
    right
    rw [step, nextOperation, ho] at h
    simp only [perform] at h
    split at h
    · exact ⟨w, rest, _, rfl, ‹_›, h⟩
    · cases h

theorem core_run_zero (s : State) : Sys2Proof.core.run 0 s = .next s := rfl

/-- One more step of any machine. -/
theorem run_succ_of_next {M : Host.Core} {s t : M.State} (k : Nat) (h : M.step s = .next t) : M.run (k + 1) s = M.run k t := by
  rw [Host.Core.run, h]

/-- A run of one more step. -/
theorem core_run_succ {s t : State} (k : Nat) (h : step s = .next t) :
    Sys2Proof.core.run (k + 1) s = Sys2Proof.core.run k t := run_succ_of_next (M := Sys2Proof.core) k h

/-! What is still to perform changes no operation. -/

theorem setFlagIf_setOps (c : Bool) (f : Flag) (s : State) (o : List TWord) :
    setFlagIf c f (s.setOps o) = (setFlagIf c f s).setOps o := by cases c <;> rfl

theorem tickVoice_setOps (g : Int) (s : State) (o : List TWord) :
    tickVoice g (s.setOps o) = (tickVoice g s).setOps o := by
  unfold tickVoice
  rw [State.setOps_voice]
  split
  · rfl
  · simp only [tickActive, tickFilter]
    rw [show tickMix (s.setOps o) = tickMix s from rfl, show tickPhases (s.setOps o) = (tickPhases s).setOps o from rfl,
      setFlagIf_setOps]
    rfl

theorem tick_setOps (s : State) (o : List TWord) : tick (s.setOps o) = (tick s).setOps o := by
  simp only [tick]
  rw [show tickLv (tickSmooth (s.setOps o)) = tickLv (tickSmooth s) from rfl,
    show tickFree (s.setOps o) = (tickFree s).setOps o from rfl,
    show ∀ lv, tickGain lv ((tickFree s).setOps o) = tickGain lv (tickFree s) from fun _ => rfl, tickVoice_setOps]
  rfl

theorem writeTarget_setOps (i : Slot) (d : Word) (s : State) (o : List TWord) {t : State} (h : writeTarget i d s = .next t) :
    writeTarget i d (s.setOps o) = .next (t.setOps o) := by
  rw [writeTarget, warl_eq] at h ⊢
  rw [setFlagIf_setOps]; cases h; rfl

theorem noteOff_setOps (note : BitVec 7) (s : State) (o : List TWord) {t : State} (h : execNoteOff note s = .next t) :
    execNoteOff note (s.setOps o) = .next (t.setOps o) := by
  rw [execNoteOff] at h ⊢
  by_cases hr : releases note s.voice = true
  · rw [if_pos hr] at h; rw [State.setOps_voice, if_pos hr]; cases h; rfl
  · rw [if_neg hr] at h; rw [State.setOps_voice, if_neg hr]; cases h; rfl

/-- No operation depends on the operations still to perform. -/
theorem exec_setOps {i : Instr} {s t : State} (o : List TWord) (h : exec i s = .next t) :
    exec i (s.setOps o) = .next (t.setOps o) := by
  cases i
  case tick => rw [eq_tick_of_exec h, exec_tick, tick_setOps]
  case reset => rw [exec_reset] at h ⊢; cases h; rfl
  case wrA4Ftw d | wrFtwMin d | wrEnvAttack d | wrEnvDecay d | wrEnvSustain d | wrEnvRelease d | wrEnvFloor d =>
    simp only [exec, execWrA4Ftw, execWrFtwMin, execWrEnvAttack, execWrEnvDecay, execWrEnvSustain, execWrEnvRelease,
      execWrEnvFloor, warl_eq, setFlagIf_setOps] at h ⊢
    cases h; rfl
  case wrTargetBend d => exact writeTarget_setOps .bend d s o h
  case wrTargetDetune d => exact writeTarget_setOps .detune d s o h
  case wrTargetMix d => exact writeTarget_setOps .mix d s o h
  case wrTargetCutoff d => exact writeTarget_setOps .cutoff d s o h
  case wrTargetRes d => exact writeTarget_setOps .res d s o h
  case wrTargetGain d => exact writeTarget_setOps .gain d s o h
  case wrTargetLfoRate d => exact writeTarget_setOps .lfoRate d s o h
  case wrTargetDepthPitch d => exact writeTarget_setOps .depthPitch d s o h
  case wrTargetDepthCut d => exact writeTarget_setOps .depthCut d s o h
  case wrTargetDepthAmp d => exact writeTarget_setOps .depthAmp d s o h
  case noteOff x note y => exact noteOff_setOps note s o h
  all_goals (cases h; rfl)

/-! Sequences of operations. -/

theorem execAll_nil (s : State) : execAll [] s = .next s := rfl

theorem execAll_cons {i : Instr} {s t : State} (is : List Instr) (h : exec i s = .next t) :
    execAll (i :: is) s = execAll is t := by simp [execAll, h]

/-- The first operation of a sequence that answers a next state. -/
theorem execAll_cons_next {i : Instr} {is : List Instr} {s u : State} (h : execAll (i :: is) s = .next u) :
    ∃ t, exec i s = .next t ∧ execAll is t = .next u := by
  obtain ⟨t, ht, -⟩ := exec_effect i s
  exact ⟨t, ht, by rwa [execAll_cons is ht] at h⟩

/-- A sequence of operations always answers a next state. -/
theorem execAll_completes (is : List Instr) (s : State) : ∃ t, execAll is s = .next t := by
  induction is generalizing s with
  | nil => exact ⟨s, rfl⟩
  | cons i is ih =>
    obtain ⟨t, ht, -⟩ := exec_effect i s
    obtain ⟨u, hu⟩ := ih t
    exact ⟨u, by rw [execAll_cons is ht, hu]⟩

theorem execAll_append {is js : List Instr} {s t : State} (h : execAll is s = .next t) :
    execAll (is ++ js) s = execAll js t := by
  induction is generalizing s with
  | nil => cases h; rfl
  | cons i is ih =>
    obtain ⟨u, hu, hr⟩ := execAll_cons_next h
    rw [List.cons_append, execAll_cons _ hu]
    exact ih hr

theorem performAll_nil (s : State) : performAll [] s = .next s := rfl

theorem performAll_cons {i : Instr} {s t : State} (is : List Instr) (h : exec i (s.setRdata none) = .next t) :
    performAll (i :: is) s = performAll is t := by
  rw [performAll, show ({ s with rdata := none } : State) = s.setRdata none from rfl, h]

/-- One more TICK, at the start. -/
theorem ticks_succ (n : Nat) (s : State) : ticks (n + 1) s = ticks n (tick s) := rfl

/-- One more TICK, at the end. -/
theorem ticks_succ_last {n : Nat} {s t : State} (h : ticks n s = .next t) : ticks (n + 1) s = .next (tick t) := by
  rw [ticks, List.replicate_succ', execAll_append h]; rfl

end Sys2Proof.Machine
end

