-- ==== Sys2Proof/Tests/Slice0.lean ====
section
/-! SUPPORT. The model's own tests: the checks of WellFormed refuse an ill-formed term each, every constructor's word decodes
to it, the spec's vectors, single steps, and a witness for the hypotheses of every obligation that has some.  The expected
values are the spec's (spec/95_test_vectors.md, or the rule named), not the model's. -/

namespace Sys2Proof.Tests

open Sys2Proof.Machine

-- One thread: the tests' kernel evaluations side by side outgrow the memory a check may use.
set_option Elab.async false

/-! ## WellFormed: one ill-formed term a check -/

theorem test_wf_refuses_reserved_04_07 : (Instr.cmdReserved04To07 0x08#8 0#24).wf = false := by decide
theorem test_wf_refuses_reserved_08_0F : (Instr.cmdReserved08To0F 0x07#8 0#24).wf = false := by decide
theorem test_wf_refuses_reserved_10_1F : (Instr.cmdReserved10To1F 0x20#8 0#24).wf = false := by decide
theorem test_wf_refuses_reserved_20_3F : (Instr.cmdReserved20To3F 0x1F#8 0#24).wf = false := by decide
theorem test_wf_refuses_reserved_40_7F : (Instr.cmdReserved40To7F 0x80#8 0#24).wf = false := by decide
theorem test_wf_refuses_reserved_80_FF : (Instr.cmdReserved80ToFF 0x7F#8 0#24).wf = false := by decide
theorem test_wf_refuses_mapped_bad_read : (Instr.rdBad 0x004#9).wf = false := by decide
theorem test_wf_refuses_writable_bad_write : (Instr.wrBad 0x080#9 0#32).wf = false := by decide
theorem test_wf_takes_bad_write_of_read_only : (Instr.wrBad 0x0C0#9 0#32).wf = true := by decide

/-! ## Decoding: every constructor, from the word of the spec's encoding -/

/-- The decoder reads the word as the instruction. -/
def decodesAs (p : TWord × Instr) : Bool := decode p.1 == .ok p.2

/-- READ of the control, status, counter and observation registers: the T of R72 to R113. -/
def controlReadsWords : List (TWord × Instr) :=
  [
    (0x000000000000#48, .rdId),
    (0x000400000000#48, .rdCmd),
    (0x000800000000#48, .rdStatus),
    (0x000C00000000#48, .rdFlags),
    (0x001000000000#48, .rdIrqEn),
    (0x001400000000#48, .rdIrqPend),
    (0x001800000000#48, .rdOscCtrl),
    (0x001C00000000#48, .rdFiltCtrl),
    (0x002000000000#48, .rdLfoCtrl),
    (0x002400000000#48, .rdA4Ftw),
    (0x002800000000#48, .rdFtwMin),
    (0x002C00000000#48, .rdEnvAttack),
    (0x003000000000#48, .rdEnvDecay),
    (0x003400000000#48, .rdEnvSustain),
    (0x003800000000#48, .rdEnvRelease),
    (0x003C00000000#48, .rdEnvFloor),
    (0x004000000000#48, .rdScountLo),
    (0x004400000000#48, .rdScountHi),
    (0x004800000000#48, .rdStartLo),
    (0x004C00000000#48, .rdStartHi),
    (0x005000000000#48, .rdOut),
    (0x005400000000#48, .rdEnvLevel),
    (0x005800000000#48, .rdEnvElapsed),
    (0x005C00000000#48, .rdPhaseA),
    (0x006000000000#48, .rdPhaseB),
    (0x006400000000#48, .rdLfoPhase),
    (0x006800000000#48, .rdLfoValue),
    (0x006C00000000#48, .rdFtwA),
    (0x007000000000#48, .rdFtwB)
  ]

theorem test_decode_control_reads : controlReadsWords.all decodesAs = true := by decide +kernel

/-- WRITE of the control registers: the T of R76 to R100 with DATA 0xA5C39617. -/
def controlWritesWords : List (TWord × Instr) :=
  [
    (0x400CA5C39617#48, .wrFlags 0xA5C39617#32),
    (0x4010A5C39617#48, .wrIrqEn 0xA5C39617#32),
    (0x4014A5C39617#48, .wrIrqPend 0xA5C39617#32),
    (0x4018A5C39617#48, .wrOscCtrl 0xA5C39617#32),
    (0x401CA5C39617#48, .wrFiltCtrl 0xA5C39617#32),
    (0x4020A5C39617#48, .wrLfoCtrl 0xA5C39617#32),
    (0x4024A5C39617#48, .wrA4Ftw 0xA5C39617#32),
    (0x4028A5C39617#48, .wrFtwMin 0xA5C39617#32),
    (0x402CA5C39617#48, .wrEnvAttack 0xA5C39617#32),
    (0x4030A5C39617#48, .wrEnvDecay 0xA5C39617#32),
    (0x4034A5C39617#48, .wrEnvSustain 0xA5C39617#32),
    (0x4038A5C39617#48, .wrEnvRelease 0xA5C39617#32),
    (0x403CA5C39617#48, .wrEnvFloor 0xA5C39617#32)
  ]

theorem test_decode_control_writes : controlWritesWords.all decodesAs = true := by decide +kernel

/-- TARGET[i]: KIND 0 and KIND 1 at 0x080 + 4i (R125, R126). -/
def slotTargetWords : List (TWord × Instr) :=
  [
    (0x008000000000#48, .rdTargetBend),
    (0x4080A5C39617#48, .wrTargetBend 0xA5C39617#32),
    (0x008400000000#48, .rdTargetDetune),
    (0x4084A5C39617#48, .wrTargetDetune 0xA5C39617#32),
    (0x008800000000#48, .rdTargetMix),
    (0x4088A5C39617#48, .wrTargetMix 0xA5C39617#32),
    (0x008C00000000#48, .rdTargetCutoff),
    (0x408CA5C39617#48, .wrTargetCutoff 0xA5C39617#32),
    (0x009000000000#48, .rdTargetRes),
    (0x4090A5C39617#48, .wrTargetRes 0xA5C39617#32),
    (0x009400000000#48, .rdTargetGain),
    (0x4094A5C39617#48, .wrTargetGain 0xA5C39617#32),
    (0x009800000000#48, .rdTargetLfoRate),
    (0x4098A5C39617#48, .wrTargetLfoRate 0xA5C39617#32),
    (0x009C00000000#48, .rdTargetDepthPitch),
    (0x409CA5C39617#48, .wrTargetDepthPitch 0xA5C39617#32),
    (0x00A000000000#48, .rdTargetDepthCut),
    (0x40A0A5C39617#48, .wrTargetDepthCut 0xA5C39617#32),
    (0x00A400000000#48, .rdTargetDepthAmp),
    (0x40A4A5C39617#48, .wrTargetDepthAmp 0xA5C39617#32)
  ]

theorem test_decode_slot_target : slotTargetWords.all decodesAs = true := by decide +kernel

/-- CURRENT[i] at 0x0C0 + 4i, SMCFG[i] at 0x100 + 4i (R127 to R129). -/
def slotCurrentAndSmcfgWords : List (TWord × Instr) :=
  [
    (0x00C000000000#48, .rdCurrentBend),
    (0x010000000000#48, .rdSmcfgBend),
    (0x4100A5C39617#48, .wrSmcfgBend 0xA5C39617#32),
    (0x00C400000000#48, .rdCurrentDetune),
    (0x010400000000#48, .rdSmcfgDetune),
    (0x4104A5C39617#48, .wrSmcfgDetune 0xA5C39617#32),
    (0x00C800000000#48, .rdCurrentMix),
    (0x010800000000#48, .rdSmcfgMix),
    (0x4108A5C39617#48, .wrSmcfgMix 0xA5C39617#32),
    (0x00CC00000000#48, .rdCurrentCutoff),
    (0x010C00000000#48, .rdSmcfgCutoff),
    (0x410CA5C39617#48, .wrSmcfgCutoff 0xA5C39617#32),
    (0x00D000000000#48, .rdCurrentRes),
    (0x011000000000#48, .rdSmcfgRes),
    (0x4110A5C39617#48, .wrSmcfgRes 0xA5C39617#32),
    (0x00D400000000#48, .rdCurrentGain),
    (0x011400000000#48, .rdSmcfgGain),
    (0x4114A5C39617#48, .wrSmcfgGain 0xA5C39617#32),
    (0x00D800000000#48, .rdCurrentLfoRate),
    (0x011800000000#48, .rdSmcfgLfoRate),
    (0x4118A5C39617#48, .wrSmcfgLfoRate 0xA5C39617#32),
    (0x00DC00000000#48, .rdCurrentDepthPitch),
    (0x011C00000000#48, .rdSmcfgDepthPitch),
    (0x411CA5C39617#48, .wrSmcfgDepthPitch 0xA5C39617#32),
    (0x00E000000000#48, .rdCurrentDepthCut),
    (0x012000000000#48, .rdSmcfgDepthCut),
    (0x4120A5C39617#48, .wrSmcfgDepthCut 0xA5C39617#32),
    (0x00E400000000#48, .rdCurrentDepthAmp),
    (0x012400000000#48, .rdSmcfgDepthAmp),
    (0x4124A5C39617#48, .wrSmcfgDepthAmp 0xA5C39617#32)
  ]

theorem test_decode_slot_current_and_smcfg : slotCurrentAndSmcfgWords.all decodesAs = true := by decide +kernel

/-- READ of the coefficients and the history: the T of R114 to R122. -/
def filterReadsWords : List (TWord × Instr) :=
  [
    (0x014000000000#48, .rdCoefB0),
    (0x014400000000#48, .rdCoefB1),
    (0x014800000000#48, .rdCoefB2),
    (0x014C00000000#48, .rdCoefA1),
    (0x015000000000#48, .rdCoefA2),
    (0x015400000000#48, .rdHistX1),
    (0x015800000000#48, .rdHistX2),
    (0x015C00000000#48, .rdHistY1),
    (0x016000000000#48, .rdHistY2)
  ]

theorem test_decode_filter_reads : filterReadsWords.all decodesAs = true := by decide +kernel

/-- The commands, TICK, RESET and the bad accesses: the fields of R61, R63 and R66 laid out by hand; spec/95_test_vectors.md 2.1. -/
def commandsWords : List (TWord × Instr) :=
  [
    (0x400400ABCDEF#48, .nop 0xABCDEF#24),
    (0x40040100457F#48, .noteOn 0#9 69#7 0#1 127#7),
    (0x400401FFC5FF#48, .noteOn 0x1FF#9 69#7 1#1 127#7),
    (0x400402004500#48, .noteOff 0#9 69#7 0#8),
    (0x4004027F3C81#48, .noteOff 0x0FE#9 0x3C#7 0x81#8),
    (0x400403000000#48, .voiceReset 0#24),
    (0x400404000000#48, .cmdReserved04To07 0x04#8 0#24),
    (0x400407123456#48, .cmdReserved04To07 0x07#8 0x123456#24),
    (0x400408000000#48, .cmdReserved08To0F 0x08#8 0#24),
    (0x40040F000001#48, .cmdReserved08To0F 0x0F#8 1#24),
    (0x400410000000#48, .cmdReserved10To1F 0x10#8 0#24),
    (0x40041F000000#48, .cmdReserved10To1F 0x1F#8 0#24),
    (0x400420000000#48, .cmdReserved20To3F 0x20#8 0#24),
    (0x40043F000000#48, .cmdReserved20To3F 0x3F#8 0#24),
    (0x400440000000#48, .cmdReserved40To7F 0x40#8 0#24),
    (0x40047F000000#48, .cmdReserved40To7F 0x7F#8 0#24),
    (0x400480000000#48, .cmdReserved80ToFF 0x80#8 0#24),
    (0x4004FFFFFFFF#48, .cmdReserved80ToFF 0xFF#8 0xFFFFFF#24),
    (0x800000000000#48, .tick),
    (0xC00000000000#48, .reset),
    (0x01FC00000000#48, .rdBad 0x1FC#9),
    (0x004100000000#48, .rdBad 0x041#9),
    (0x007400000000#48, .rdBad 0x074#9),
    (0x400000000005#48, .wrBad 0x000#9 5#32),
    (0x400500000005#48, .wrBad 0x005#9 5#32),
    (0x40C000000005#48, .wrBad 0x0C0#9 5#32)
  ]

theorem test_decode_commands : commandsWords.all decodesAs = true := by decide +kernel

/-- The words of spec/95_test_vectors.md 2.1 that are no operation. -/
theorem test_decode_refuses_non_transactions :
    decode 0x420400000000#48 = .invalid .reservedBits ∧ decode 0x000400000001#48 = .invalid .unusedData ∧
    decode 0x800000000001#48 = .invalid .unusedData ∧ decode 0xC00100000000#48 = .invalid .unusedAddr := by decide

/-! ## The datapath's functions on the spec's vectors (spec/95_test_vectors.md 2.3, 2.6 to 2.9) -/

theorem test_sine : [0, 2 ^ 21, 0x00600000, 2 ^ 30, 0x40200000, 0xC0003039, 2 ^ 32 - 1, 0x12345678].map sine =
    [0, 25736, 77206, 8388608, 8388529, -8388608, -1, 3624587] := by decide +kernel

theorem test_triangle : [127, 128, 2 ^ 30, 2 ^ 31, 3 * 2 ^ 30, 0xFFFFFF80, 0x12345678].map triN =
    [0, 1, 8388608, 0, -8388608, -1, 2386092] := by decide +kernel

theorem test_exp_rom : [0, 1024, 6144, 12287].map expRom = [1073741824, 1137589835, 1518500250, 2147362515] := by
  decide +kernel

theorem test_p2f : [1, -1, 1024, -12288, 59392, -70656, 157696].map (p2f 39370534 1789570) =
    [39372754, 39368313, 41711627, 19685267, 1122405064, 1789570, 2147483647] := by decide +kernel

theorem test_p2f_extremes : p2f (2 ^ 30) 1 (-196608) = 16384 ∧ p2f 1 1 196608 = 65536 := by decide +kernel

theorem test_blep : [0, 153092096, 306184191, 2 ^ 32 - 153092096, 2 ^ 32 - 1].map (blep · 306184192) =
    [-8388608, -2097152, 0, 2097152, 8388608] := by decide +kernel

/-- dt = 2, where the formula of R153 and its remark differ: the vector has the formula's value (log entry 9). -/
theorem test_blep_small_increment : blep (2 ^ 32 - 1) 2 = 2097152 ∧ blep 1 2 = -2097152 := by decide +kernel

theorem test_blamp : [0, 153092096, 2 ^ 32 - 1].map (blamp · 306184192) = [797354, 99669, 797354] := by decide +kernel

theorem test_osc_saw : [0, 153092096, 2 ^ 31, 2 ^ 32 - 153092096].map (osc .saw · 306184192) =
    [0, -5693440, 0, 5693440] := by decide +kernel

theorem test_osc_square : [153092096, 2 ^ 30, 2 ^ 31, 2 ^ 32 - 1].map (osc .square · 306184192) =
    [6291456, 8388607, 0, 0] := by decide +kernel

theorem test_osc_triangle : [306184192, 2 ^ 30, 3 * 2 ^ 30].map (osc .triangle · 306184192) =
    [2392064, 7591254, -7591254] := by decide +kernel

theorem test_mix_floors : mix 8388607 (-8388608) (2 ^ 22) = -1 ∧ mix 1000 (-1000) (2 ^ 23) = -1000 := by decide +kernel

theorem test_coef_lowpass : coefValues .lowpass 0x7C000000 0x0B50 = ⟨500860719, 1001721438, 500860719, 999303863, 467268102⟩ := by
  decide +kernel

theorem test_coef_highpass : coefValues .highpass 0x00040000 0x0B50 =
    ⟨536725031, -1073450062, 536725031, -1073449424, 536579790⟩ := by decide +kernel

theorem test_coef_bandpass : coefValues .bandpass 0x7C000000 0x0800 = ⟨47925053, 0, -47925053, 973182952, 441020805⟩ := by
  decide +kernel

theorem test_cutoff_route : cutoffEff (2 ^ 30) (2 ^ 28) (-2 ^ 23) = 0x30000000 := by decide +kernel

theorem test_gain_route : gainEff (2 ^ 23) (-2 ^ 23) (2 ^ 22) = 2 ^ 22 := by decide +kernel

theorem test_amp : amp (2 ^ 23 - 1) (2 ^ 23) (2 ^ 23) 63 = 4194303 ∧ amp (-1) (2 ^ 22) (2 ^ 23) 127 = -1 := by decide +kernel

/-- R127's example: MIX to 1000 with SHIFT 5 moves by 31; and the cap of R130. -/
theorem test_smooth : smoothStep 1000 0 5 0 = 31 ∧ smoothStep 1000 0 5 7 = 7 ∧ smoothStep (-3) 0 31 0 = -1 := by
  decide +kernel

/-! ## Single operations -/

/-- The outcome is a next state with a property. -/
def after (o : Host.Outcome State Fault Refusal) (p : State → Bool) : Bool :=
  match o with
  | .next t => p t
  | .fault _ => false
  | .refused _ => false

/-- The state after `wr A4_FTW, 0x4000_0000`, `wr FILT_CTRL, 3` and `note_on 69, 127` from reset: program P1 before its
first TICK. -/
def sounding : State :=
  { State.reset with
    voice := { stage := .attack, note := 69#7, vel := 127#7 }
    tuning := { State.reset.tuning with a4Ftw := 0x40000000#32 }
    mode := .bypass }

/-- A legal state in each of the other active stages, its level and registers chosen. -/
def staged (g : Stage) : State :=
  { sounding with
    voice := { sounding.voice with stage := g }
    env := { level := 0x800000#25, elapsed := 0#32 }
    envCtl := { sounding.envCtl with sus := 0x400000#24, rel := 0x300000#24, dec := 0x300000#24 } }

/-- The conventions of R125: -1 written to an unsigned slot clamps to hi, and sets CLAMP. -/
theorem test_write_negative_to_unsigned_slot :
    after (exec (.wrTargetGain 0xFFFFFFFF#32) .reset) (fun t => t.slots.gain.tgt == 0x800000#32 && t.flags == 0x1#4) = true := by
  decide +kernel

theorem test_write_signed_slot :
    after (exec (.wrTargetBend 0xFFFFFF9C#32) .reset) (fun t => slotValue .bend t.slots.bend.tgt == -100 && t.flags == 0#4) = true ∧
    after (exec (.wrTargetDetune 0x80000000#32) .reset) (fun t => slotValue .detune t.slots.detune.tgt == -12288) = true := by
  decide +kernel

/-- The WARL table of spec/95_test_vectors.md 2.2. -/
theorem test_warl_registers :
    after (exec (.wrA4Ftw 0x80000000#32) .reset) (fun t => t.tuning.a4Ftw == 0x7FFFFFFF#32 && t.flags == 0x1#4) = true ∧
    after (exec (.wrFtwMin 0#32) .reset) (fun t => t.tuning.ftwMin == 1#32 && t.flags == 0x1#4) = true ∧
    after (exec (.wrEnvAttack 0x800001#32) .reset) (fun t => t.envCtl.att == 0x800000#24 && t.flags == 0x1#4) = true ∧
    after (exec (.wrEnvSustain 0#32) .reset) (fun t => t.envCtl.sus == 0#24 && t.flags == 0#4) = true ∧
    after (exec (.wrEnvRelease 0#32) .reset) (fun t => t.envCtl.rel == 1#24 && t.flags == 0x1#4) = true ∧
    after (exec (.wrEnvFloor 0xFFFFFFFF#32) .reset) (fun t => t.envCtl.floor == 0x800000#24) = true := by decide +kernel

/-- `wr OSC_CTRL, 0xFFFF_FFFF` reads back 0x133 (R81). -/
theorem test_osc_ctrl_reserved_bits_read_zero :
    after (exec (.wrOscCtrl 0xFFFFFFFF#32) .reset) (fun t =>
      after (exec .rdOscCtrl t) (fun u => u.rdata == some 0x133#32)) = true := by decide +kernel

/-- `wr SMCFG.BEND, 0xFFFF_FFFF` reads back 0xFFFF_FF1F (R129). -/
theorem test_smcfg_reserved_bits_read_zero :
    after (exec (.wrSmcfgBend 0xFFFFFFFF#32) .reset) (fun t =>
      after (exec .rdSmcfgBend t) (fun u => u.rdata == some 0xFFFFFF1F#32)) = true := by decide +kernel

/-- R74's example: after `note_on 69, 127`, STATUS is 0x007F_4509. -/
theorem test_status_after_note_on :
    after (exec (.noteOn 0#9 69#7 0#1 127#7) .reset) (fun t =>
      after (exec .rdStatus t) (fun u => u.rdata == some 0x007F4509#32)) = true := by decide +kernel

/-- W1C: FLAGS 0xF, then a write of 5, gives 0xA. -/
theorem test_w1c : after (exec (.wrFlags 0xFFFFFFF5#32) { State.reset with flags := 0xF#4 }) (fun t => t.flags == 0xA#4) = true := by
  decide +kernel

/-- OUT reads sign-extended: -2^23 is 0xFF80_0000 (R105). -/
theorem test_out_sign_extended :
    after (exec .rdOut { State.reset with out := 0x800000#24 }) (fun t => t.rdata == some 0xFF800000#32) = true := by
  decide +kernel

/-- LFO_VALUE: +1.0 is 0x0080_0000 and -1.0 is 0xFF80_0000 (R111). -/
theorem test_lfo_value_reads :
    after (exec .rdLfoValue (State.reset.setLfo { State.reset.lfo with value := 0x800000#25 })) (fun t =>
      t.rdata == some 0x00800000#32) = true ∧
    after (exec .rdLfoValue (State.reset.setLfo { State.reset.lfo with value := 0x1800000#25 })) (fun t =>
      t.rdata == some 0xFF800000#32) = true := by decide +kernel

/-- The latch of SCOUNT_LO with scount = 0x1_0000_0002 (R101). -/
theorem test_scount_latch :
    after (exec .rdScountLo { State.reset with counters := ⟨0x100000002#64, 0#32, 0#64⟩ }) (fun t =>
      t.rdata == some 2#32 && t.counters.shadow == 1#32) = true := by decide +kernel

/-- A NOTE_OFF of another note, and one in RELEASE, do nothing (R135). -/
theorem test_note_off_ignored :
    after (exec (.noteOff 0#9 61#7 0#8) sounding) (fun t => t == sounding) = true ∧
    after (exec (.noteOff 0#9 69#7 0#8) (staged .release)) (fun t => t == staged .release) = true := by decide +kernel

/-- FREE_RUN keeps the phases at NOTE_ON (R134); VOICE_RESET ignores it (R136). -/
theorem test_free_run :
    after (exec (.noteOn 0#9 1#7 0#1 1#7) { sounding with osc := ⟨5#32, 6#32⟩, oscCtl := ⟨.sine, .sine, true⟩ })
      (fun t => t.osc == ⟨5#32, 6#32⟩) = true ∧
    after (exec (.voiceReset 0#24) { sounding with osc := ⟨5#32, 6#32⟩, oscCtl := ⟨.sine, .sine, true⟩ })
      (fun t => t.osc == ⟨0#32, 0#32⟩) = true := by decide +kernel

/-- One TICK from reset (spec/95_test_vectors.md 2.5). -/
theorem test_tick_from_reset :
    after (exec .tick .reset) (fun t =>
      t.counters.scount == 1#64 && t.lfo.phase == 447392#32 && t.lfo.value == 0#25 && t.ftw == ⟨1789570#32, 1789570#32⟩ &&
        t.coef == ⟨500860719#32, 1001721438#32, 500860719#32, 999303863#32, 467268102#32⟩ && t.out == 0#24 &&
        t.voice == State.reset.voice && t.env == State.reset.env && t.osc == State.reset.osc) = true := by decide +kernel

/-- Program P1, its second TICK: phase 2^30, level 2^23 by then, and the sine's peak saturated to 8388607. -/
theorem test_tick_at_sine_peak :
    after (exec .tick { sounding with osc := ⟨0x40000000#32, 0x40000000#32⟩, env := ⟨0x800000#25, 0#32⟩ }) (fun t =>
      t.out.toInt == 8388607 && t.osc.a == 0x80000000#32 && t.hist.x1.toInt == 8388607 && t.hist.y1.toInt == 8388607 &&
        t.voice.stage == .decay && t.flags == 0#4) = true := by decide +kernel

/-- Program P2's rows of the envelope, with a release that ends: level 0x300000 is at or below rel, so the TICK sets the
idle interrupt (R176). -/
theorem test_release_end_sets_pending :
    after (exec .tick { staged .release with env := ⟨0x300000#25, 9#32⟩ }) (fun t =>
      t.voice.stage == .idle && t.env == ⟨0#25, 0#32⟩ && t.irqPend && !irqLine t) = true := by decide +kernel

/-- R166 with b0 = 2^29 and a1 = -2^29: yr = x0 + y1 saturates, and the saturated value is what is fed back. -/
theorem test_filter_saturates :
    biquadSat ⟨0x20000000#32, 0#32, 0#32, 0xE0000000#32, 0#32⟩ ⟨0#24, 0#24, 0x7FFFFF#24, 0#24⟩ 8388607 = true ∧
    (biquadHist ⟨0x20000000#32, 0#32, 0#32, 0xE0000000#32, 0#32⟩ ⟨0#24, 0#24, 0x7FFFFF#24, 0#24⟩ 8388607).y1 = 0x7FFFFF#24 := by
  decide +kernel

/-- scount wraps (R141). -/
theorem test_scount_wraps :
    after (exec .tick { State.reset with counters := ⟨0xFFFFFFFFFFFFFFFF#64, 0#32, 0#64⟩ }) (fun t => t.counters.scount == 0#64) =
      true := by decide +kernel

/-- elapsed saturates at 2^32 - 1 (R171). -/
theorem test_elapsed_saturates :
    after (exec .tick { staged .sustain with env := ⟨0x400000#25, 0xFFFFFFFF#32⟩ }) (fun t => t.env.elapsed == 0xFFFFFFFF#32) =
      true := by decide +kernel

/-- The step fetches what withFetchWord places, and refuses what is no transaction. -/
theorem test_step_runs_fetch_word :
    after (step (State.reset.withFetchWord 48 0x40040100457F)) (fun t => t.voice == ⟨.attack, 69#7, 127#7⟩ && t.ops == []) = true ∧
    after (step (State.reset.withFetchWord 48 0x000000000000)) (fun t => t.rdata == some 0x53460100#32) = true ∧
    after (step (State.reset.withFetchWord 48 0x420000000000)) (fun _ => true) = false := by decide +kernel

/-! ## The assembler (R69, R70) -/

theorem test_assemble_note_on : assembleLine "note_on 69, 127   ; A4" = .ok [0x40040100457F#48] := by decide +kernel
theorem test_assemble_named_slot : assembleLine "wr TARGET.CUTOFF, 0x4000_0000" = .ok [0x408C40000000#48] := by decide +kernel
theorem test_assemble_indexed_slot : assembleLine "wr TARGET[0], -100" = .ok [0x4080FFFFFF9C#48] := by decide +kernel
theorem test_assemble_value_range : assembleLine "wr CMD, 0x1_0000_0000" = .error .valueRange := by decide +kernel
theorem test_assemble_pseudo :
    assemble ["snap MIX, 5", "", "rd64 START"] =
      .ok [0x410800000000#48, 0x408800000005#48, 0x004800000000#48, 0x004C00000000#48] := by decide +kernel

/-! ## Systems of blocks (R189) -/

/-- With none free the oldest is stolen, then the lowest velocity, then the lowest index; a free one is preferred. -/
theorem test_steal_oldest_then_softest :
    stealTarget [{ sounding with counters := ⟨9#64, 0#32, 5#64⟩ }, { sounding with counters := ⟨9#64, 0#32, 4#64⟩ },
      { sounding with voice := ⟨.attack, 60#7, 3#7⟩, counters := ⟨9#64, 0#32, 4#64⟩ },
      { sounding with voice := ⟨.attack, 61#7, 3#7⟩, counters := ⟨9#64, 0#32, 4#64⟩ }] = some 2 ∧
    mayAllocate [sounding, State.reset] 0 = false ∧ mayAllocate [sounding, State.reset] 1 = true ∧
    sumOutputs [{ sounding with out := 0xFFFFFF#24 }, { sounding with out := 5#24 }] = 4 := by decide +kernel

/-! ## Witnesses: a state and operands that meet the hypotheses of each obligation that has some -/

theorem sounding_legal : sounding.Legal := by
  constructor <;> first | decide | (intro i; cases i <;> decide)

theorem staged_legal (g : Stage) (h : g ≠ .idle) : (staged g).Legal := by
  cases g <;> first | exact absurd rfl h | (constructor <;> first | decide | (intro i; cases i <;> decide))

/-- An idle legal state other than the one after RESET. -/
def idling : State := { sounding with voice := { sounding.voice with stage := .idle } }

theorem idling_legal : idling.Legal := by
  constructor <;> first | decide | (intro i; cases i <;> decide)

/-- The state with one operation issued. -/
def issued (t : TWord) : State := { sounding with ops := [t] }

theorem witness_NonTransactionsAreRefused :
    (∃ why, decode 0x420400000000#48 = .invalid why) ∧ (issued 0x420400000000#48).ops = 0x420400000000#48 :: [] := by
  exact ⟨⟨.reservedBits, by decide⟩, rfl⟩

/-- Each region of the first clause at both its ends, and each of the second. -/
theorem witness_BadAccessSetsBadaccOnly :
    [0x001, 0x1FF, 0x074, 0x07C, 0x0A8, 0x0BC, 0x0E8, 0x0FC, 0x128, 0x13C, 0x164, 0x1FC].all (fun a : Nat =>
      a % 4 ≠ 0 ∨ (0x070 < a ∧ a < 0x080) ∨ (0x0A4 < a ∧ a < 0x0C0) ∨ (0x0E4 < a ∧ a < 0x100) ∨
        (0x124 < a ∧ a < 0x140) ∨ 0x160 < a) = true ∧
    [0x000, 0x008, 0x040, 0x070, 0x0C0, 0x0E4, 0x140, 0x160].all (fun a : Nat =>
      a % 4 = 0 ∧ (a = 0 ∨ a = 8 ∨ (0x040 ≤ a ∧ a ≤ 0x070) ∨ (0x0C0 ≤ a ∧ a ≤ 0x0E4) ∨ (0x140 ≤ a ∧ a ≤ 0x160))) = true := by
  decide

theorem witness_PseudoInstructionsExpandAsListed :
    (127 ≤ 127 ∧ 0 ≤ 127) ∧ 1 ≤ 1 ∧ (-2 ^ 31 : Int) ≤ -2 ^ 31 ∧ (-2 ^ 31 : Int) < 2 ^ 32 ∧ (2 ^ 32 - 1 : Int) < 2 ^ 32 := by decide

theorem witness_StepPerformsTheNextOperation :
    (issued 0x800000000000#48).ops = 0x800000000000#48 :: [] ∧ decode 0x800000000000#48 = .ok .tick ∧
    decodeTableWord 48 0x400C0000000F = some (.wrFlags 0xF#32) ∧ sounding.ops = [] := by decide

theorem witness_TransactionsNeverStop : (issued 0x800000000000#48).AllTransactions := by
  intro t h
  exact ⟨.tick, by rw [List.mem_singleton.1 h]; decide⟩

/-- A TICK between the two reads that carries into the high half. -/
theorem witness_SplitCounterReadIsConsistent :
    (∀ i ∈ [Instr.tick], i ≠ .reset ∧ i ≠ .rdScountLo) ∧
    ∃ s1 s2, exec .rdScountLo { sounding with counters := ⟨0xFFFFFFFF#64, 7#32, 0#64⟩ } = .next s1 ∧
      execAll [.tick] s1 = .next s2 :=
  ⟨by decide, _, _, rfl, rfl⟩

/-- A state for each code that ReadsOfControlRegisters names. -/
theorem witness_ReadsOfControlRegisters :
    ({ sounding with oscCtl := ⟨.saw, .square, false⟩ } : State).oscCtl = ⟨.saw, .square, false⟩ ∧
    ({ sounding with oscCtl := ⟨.triangle, .sine, true⟩ } : State).oscCtl = ⟨.triangle, .sine, true⟩ ∧
    (∀ m : FilterMode, ({ sounding with mode := m } : State).mode = m) ∧
    (∀ g : LfoShape, ({ sounding with lfo := { sounding.lfo with shape := g } } : State).lfo.shape = g) :=
  ⟨rfl, rfl, fun _ => rfl, fun _ => rfl⟩

theorem witness_WriteTargetClampsAndFlags : Slot.cutoff ≠ Slot.bend := by decide

theorem witness_WriteSmcfgTakesItsFields :
    Slot.cutoff ≠ Slot.bend ∧ (0xE0#32).toNat % 2 ^ 5 = 0 ∧ (0xE0#32).toNat / 2 ^ 8 = 0 := by decide

/-- Every clause of the preset round trip: what each register reads. -/
theorem witness_PresetRoundTripChangesNothing :
    sounding.Legal ∧
    exec (.rdTarget .cutoff) sounding = .next { sounding with rdata := some 0x7C000000#32 } ∧
    exec (.rdSmcfg .depthAmp) sounding = .next { sounding with rdata := some 5#32 } ∧
    exec .rdIrqEn sounding = .next { sounding with rdata := some 0#32 } ∧
    exec .rdOscCtrl sounding = .next { sounding with rdata := some 0#32 } ∧
    exec .rdFiltCtrl sounding = .next { sounding with rdata := some 3#32 } ∧
    exec .rdLfoCtrl sounding = .next { sounding with rdata := some 0#32 } ∧
    exec .rdA4Ftw sounding = .next { sounding with rdata := some 0x40000000#32 } ∧
    exec .rdFtwMin sounding = .next { sounding with rdata := some 1789570#32 } ∧
    exec .rdEnvAttack sounding = .next { sounding with rdata := some 0x800000#32 } ∧
    exec .rdEnvDecay sounding = .next { sounding with rdata := some 0x800000#32 } ∧
    exec .rdEnvSustain sounding = .next { sounding with rdata := some 0x800000#32 } ∧
    exec .rdEnvRelease sounding = .next { sounding with rdata := some 0x800000#32 } ∧
    exec .rdEnvFloor sounding = .next { sounding with rdata := some 0#32 } :=
  ⟨sounding_legal, rfl, rfl, rfl, rfl, rfl, rfl, rfl, rfl, rfl, rfl, rfl, rfl, rfl⟩

theorem witness_NopAndReservedCommands : 4 ≤ (0x04#8).toNat ∧ 4 ≤ (0xFF#8).toNat := by decide

/-- Both cases of TICK, the idle one and the active one, from legal states. -/
theorem witness_TickRunsItsStepsInOrder : idling.voice.stage = .idle ∧ sounding.voice.stage ≠ .idle := by decide

theorem witness_IncrementsStayBelowNyquist : ∃ t, sounding.Legal ∧ exec .tick sounding = .next t := ⟨_, sounding_legal, rfl⟩

theorem witness_FilterIsAlwaysStable : ∃ t, idling.Legal ∧ exec .tick idling = .next t := ⟨_, idling_legal, rfl⟩

theorem witness_SmoothingStepOfEverySlot : sounding.Legal := sounding_legal

/-- The clauses of the smoother: a slot away from its target, with a cap; and a slot at it. -/
theorem witness_SmootherConvergesWithoutOvershoot :
    let s := { sounding with slots := sounding.slots.set .mix ⟨1000#32, 0#32, 5#5, 7#24⟩ }
    s.Legal ∧ (∃ t, exec .tick s = .next t) ∧ slotValue .mix (s.slots.get .mix).cur ≠ slotValue .mix (s.slots.get .mix).tgt ∧
      (s.slots.get .mix).maxstep ≠ 0#24 ∧ slotValue .res (s.slots.get .res).cur = slotValue .res (s.slots.get .res).tgt ∧
      (∃ u, ticks 1000 s = .next u) := by
  refine ⟨?_, ⟨_, rfl⟩, by decide, by decide, by decide, ?_⟩
  · constructor <;> first | decide | (intro i; cases i <;> decide)
  · have : ∀ n s, ∃ u, ticks n s = .next u := by
      intro n
      induction n with
      | zero => exact fun s => ⟨s, rfl⟩
      | succ n ih => exact fun s => ih (tick s)
    exact this 1000 _

/-- Each clause about the phases: an active TICK, an idle one, and an operation that clears them. -/
theorem witness_PhasesAdvanceOnlyWhileActive :
    (∃ t, exec .tick sounding = .next t ∧ sounding.voice.stage ≠ .idle) ∧
    (∃ t, exec .tick idling = .next t ∧ idling.voice.stage = .idle) ∧
    (∃ t, exec (.voiceReset 0#24) { sounding with osc := ⟨1#32, 2#32⟩ } = .next t ∧ t.osc ≠ ⟨1#32, 2#32⟩) :=
  ⟨⟨_, rfl, by decide⟩, ⟨_, rfl, by decide⟩, ⟨_, rfl, by decide⟩⟩

theorem witness_LfoAdvancesEveryTick :
    sounding.Legal ∧ (∃ t, exec .tick sounding = .next t) ∧ ∃ t, exec (.wrLfoCtrl 1#32) sounding = .next t :=
  ⟨sounding_legal, ⟨_, rfl⟩, ⟨_, rfl⟩⟩

theorem witness_PitchToIncrementIsMonotone :
    12287 < 12288 ∧ (1 : Int) ≤ 39370534 ∧ (1789570 : Int) ≤ 2 ^ 31 - 1 ∧ (-70656 : Int) ≤ 59392 := by decide

/-- A legal state for each mode. -/
theorem witness_CoefficientsFollowTheFormulas :
    ∀ m : FilterMode, State.Legal { sounding with mode := m } ∧ ∃ t, exec .tick { sounding with mode := m } = .next t := by
  intro m
  exact ⟨{ sounding_legal with }, _, rfl⟩

/-- The three clauses about the history. -/
theorem witness_FilterFollowsTheDifferenceEquation :
    (∃ t, exec .tick sounding = .next t ∧ sounding.voice.stage ≠ .idle) ∧
    (∃ t, exec .tick idling = .next t ∧ idling.voice.stage = .idle) ∧
    (∃ t, exec (.noteOn 0#9 1#7 0#1 1#7) { sounding with hist := ⟨1#24, 0#24, 0#24, 0#24⟩ } = .next t ∧
      t.hist ≠ ⟨1#24, 0#24, 0#24, 0#24⟩) :=
  ⟨⟨_, rfl, by decide⟩, ⟨_, rfl, by decide⟩, ⟨_, rfl, by decide⟩⟩

theorem witness_BypassPassesTheInputExactly :
    ∃ t, sounding.mode = .bypass ∧ sounding.voice.stage ≠ .idle ∧ exec .tick sounding = .next t := ⟨_, rfl, by decide, rfl⟩

/-- A legal state in every stage; for RELEASE one that goes on and one that ends. -/
theorem witness_EnvelopeStepsByStage :
    idling.Legal ∧ (staged .attack).Legal ∧ (staged .decay).Legal ∧ (staged .sustain).Legal ∧ (staged .release).Legal ∧
    ¬ (staged .release).env.level.toNat ≤ (staged .release).envCtl.rel.toNat ∧
    ∀ s : State, ∃ t, exec .tick s = .next t :=
  ⟨idling_legal, staged_legal _ (by decide), staged_legal _ (by decide), staged_legal _ (by decide),
    staged_legal _ (by decide), by decide, fun s => ⟨tick s, rfl⟩⟩

theorem witness_AttackTakesItsTicks : sounding.Legal ∧ sounding.voice.stage = .attack ∧ sounding.env.level = 0#25 :=
  ⟨sounding_legal, rfl, rfl⟩

theorem witness_DecayTakesItsTicks :
    (staged .decay).Legal ∧ (staged .decay).voice.stage = .decay ∧ (staged .decay).env.level.toNat = 2 ^ 23 :=
  ⟨staged_legal _ (by decide), rfl, by decide⟩

theorem witness_ReleaseTakesItsTicks : (staged .release).Legal ∧ (staged .release).voice.stage = .release :=
  ⟨staged_legal _ (by decide), rfl⟩

/-- An active legal state with the level 0, and one with the gain 0. -/
theorem witness_AmplitudePathIsExact :
    sounding.Legal ∧ sounding.voice.stage ≠ .idle ∧ sounding.env.level.toNat = 0 ∧
    (∃ t, exec .tick (sounding.setSlots (sounding.slots.set .gain ⟨0#32, 0#32, 5#5, 0#24⟩)) = .next t) ∧
    slotValue .gain (smoothSlot .gain ⟨0#32, 0#32, 5#5, 0#24⟩).cur = 0 :=
  ⟨sounding_legal, by decide, by decide, ⟨_, rfl⟩, by decide⟩

theorem witness_SilentWhileIdle : idling.voice.stage = .idle := rfl

theorem witness_RomIndicesAndPhases : 1 ≤ 12287 ∧ 12287 < 12288 ∧ 255 < 256 ∧ (0 : Int) ≤ 2 ^ 32 - 1 ∧ (2 ^ 32 - 1 : Int) < 2 ^ 32 := by
  decide

theorem witness_SineAndTriangleShapes : (0 : Int) ≤ 2 ^ 32 - 1 ∧ (2 ^ 32 - 1 : Int) < 2 ^ 32 ∧ 1023 < 1024 := by decide

/-- Increments on both sides of 2^16, and a phase outside both windows. -/
theorem witness_BandLimitingResidualsStayInRange :
    (1 : Int) ≤ 2 ^ 16 ∧ (2 ^ 16 : Int) ≤ 2 ^ 31 - 1 ∧ (2 ^ 16 + 1 : Int) ≤ 2 ^ 31 - 1 ∧ (2 ^ 16 : Int) ≤ 2 ^ 31 ∧
    (2 ^ 16 : Int) ≤ 2 ^ 32 - 2 ^ 31 ∧ (2 ^ 16 : Int) % 2 = 0 := by decide

/-- A phase and an increment of 4 outside the windows, for each waveform, at a window's edge. -/
theorem witness_OscillatorMidpointsAndMix :
    (4 : Int) ≤ 2 ^ 32 - (2 ^ 32 - 4) ∧ (4 : Int) ≤ 2 ^ 31 - (2 ^ 31 - 4) ∧ (4 : Int) ≤ (2 ^ 31 + 4) - 2 ^ 31 ∧
    (4 : Int) ≤ ((2 ^ 30 + 4) - 2 ^ 30) % 2 ^ 32 ∧ (4 : Int) ≤ 2 ^ 32 - ((2 ^ 30 + 4) - 2 ^ 30) % 2 ^ 32 ∧
    (4 : Int) ≤ ((2 ^ 30 + 4) - 3 * 2 ^ 30) % 2 ^ 32 ∧ (4 : Int) ≤ 2 ^ 32 - ((2 ^ 30 + 4) - 3 * 2 ^ 30) % 2 ^ 32 ∧
    within (-2 ^ 23) (-2 ^ 23) (2 ^ 23 - 1) ∧ within (-2 ^ 23) (2 ^ 23 - 1) (2 ^ 23 - 1) ∧ (0 : Int) ≤ 2 ^ 22 := by decide

theorem witness_LegalStatesStayLegal :
    ∃ t, State.Legal (issued 0x800000000000#48) ∧ step (issued 0x800000000000#48) = .next t :=
  ⟨tick { sounding with ops := [], rdata := none }, { sounding_legal with }, rfl⟩

/-- The bit set by the TICK that ends a release, and cleared by a write of 1. -/
theorem witness_PendingBitSetAndClearedOnlyAsListed :
    (∃ t, exec .tick (staged .release) = .next t ∧ (staged .release).irqPend = false) ∧
    (∃ t, exec (.wrIrqPend 1#32) { sounding with irqPend := true } = .next t ∧ t.irqPend = false) :=
  ⟨⟨_, rfl, rfl⟩, ⟨_, rfl, rfl⟩⟩

/-- A sequence that leaves IDLE, and an operation that enters it. -/
theorem witness_OnlyNoteOnLeavesIdle :
    (∃ t, execAll [.nop 0#24, .noteOn 0#9 1#7 0#1 1#7] idling = .next t ∧ idling.voice.stage = .idle ∧ t.voice.stage ≠ .idle) ∧
    (∃ t, exec (.voiceReset 0#24) sounding = .next t ∧ sounding.voice.stage ≠ .idle ∧ t.voice.stage = .idle) :=
  ⟨⟨_, rfl, rfl, by decide⟩, ⟨_, rfl, by decide, rfl⟩⟩

theorem witness_CurrentAndCountersMoveOnlyAsListed :
    (∃ t, exec .tick sounding = .next t) ∧ (∃ t, exec (.wrTargetMix 9#32) sounding = .next t) ∧
    (∃ t, exec .rdScountHi sounding = .next t) := ⟨⟨_, rfl⟩, ⟨_, rfl⟩, ⟨_, rfl⟩⟩

theorem witness_FlagsAlterNoOperation :
    Instr.rdFlags ∉ [Instr.rdStatus, .wrFlags 1#32] ∧ ∃ t, execAll [.rdStatus, .wrFlags 1#32] sounding = .next t :=
  ⟨by decide, _, rfl⟩

/-- Two blocks in different stages whose LFOs agree, with sequences that differ in a NOTE_ON. -/
theorem witness_InstancesKeepIdenticalLfos :
    [Instr.tick, .noteOn 0#9 1#7 0#1 1#7].filter touchesLfo = [Instr.tick].filter touchesLfo ∧
    lfoView sounding = lfoView idling ∧ (∃ t, execAll [.tick, .noteOn 0#9 1#7 0#1 1#7] sounding = .next t) ∧
    ∃ t, execAll [.tick] idling = .next t :=
  ⟨by decide, rfl, ⟨_, rfl⟩, ⟨_, rfl⟩⟩

end Sys2Proof.Tests
end

section
/-! SUPPORT. The transaction words (spec/30_encoding.md R62) and the pseudo-instructions (R70). -/

namespace Sys2Proof.Machine

/-! ## Which words are transactions (R62) -/

/-- R62 in the decoder's own fields: a READ has no DATA, a WRITE has both operands, a TICK and a RESET have neither. -/
theorem decode_ok_iff (t : TWord) :
    (∃ i, decode t = .ok i) ↔
      rsvOf t = 0#5 ∧ (kindOf t ≠ 1#2 → dataOf t = 0#32) ∧ (2 ≤ (kindOf t).toNat → addrOf t = 0#9) := by
  by_cases hr : rsvOf t = 0#5
  case neg => simp [decode, hr]
  have kinds : ∀ k : BitVec 2, k = 0#2 ∨ k = 1#2 ∨ 2 ≤ k.toNat := by decide
  rcases kinds (kindOf t) with hk | hk | hk
  · by_cases hd : dataOf t = 0#32 <;> simp [decode, hr, hk, hd]
  · simp [decode, hr, hk]
  · have h0 : kindOf t ≠ 0#2 := fun e => by simp [e] at hk
    have h1 : kindOf t ≠ 1#2 := fun e => by simp [e] at hk
    by_cases ha : addrOf t = 0#9 <;> by_cases hd : dataOf t = 0#32 <;> by_cases h2 : kindOf t = 2#2 <;>
      simp [decode, hr, hk, h0, h1, ha, hd, h2]

/-- A word that is no operation has a reason. -/
theorem exists_decode_invalid {t : TWord} (h : ∀ i, decode t ≠ .ok i) : ∃ why, decode t = .invalid why := by
  cases hd : decode t with
  | ok i => exact absurd hd (h i)
  | invalid why => exact ⟨why, rfl⟩

/-- The step of a state whose next word is no transaction. -/
theorem step_cons_invalid {s : State} {t : TWord} {rest : List TWord} {why : NotTransaction} (ho : s.ops = t :: rest)
    (hd : decode t = .invalid why) : step s = .refused (.notATransaction why) := by
  simp [step, nextOperation, ho, perform, hd]

/-- Settles O2: the decoder's fields are the bit ranges of the statement. -/
theorem nonTransactionsAreRefused : Obligations.NonTransactionsAreRefused := by
  intro t
  refine ⟨decode_ok_iff t, fun hno s rest ho => ?_⟩
  obtain ⟨why, hd⟩ := exists_decode_invalid hno
  exact ⟨why, step_cons_invalid ho hd⟩

/-! ## The pseudo-instructions (R70) -/

/-- A `wr` of a VALUE in the range of R69 is one WRITE of its 32 low bits. -/
theorem asmWrite_of_range (a : Addr) {x : Int} (lo : -2 ^ 31 ≤ x) (hi : x < 2 ^ 32) :
    asmWrite a x = .ok [writeWord a (BitVec.ofInt 32 x)] := if_pos ⟨lo, hi⟩

/-- A `wr` of a VALUE in range performs the WRITE its address selects. -/
theorem exists_asmWrite {a : Addr} {x : Int} {i : Instr} (lo : -2 ^ 31 ≤ x) (hi : x < 2 ^ 32)
    (hd : decodeWrite a (BitVec.ofInt 32 x) = i) : ∃ w, asmWrite a x = .ok [w] ∧ decode w = .ok i :=
  ⟨_, asmWrite_of_range a lo hi, by rw [decode_writeWord, hd]⟩

theorem decodeWrite_cmd (d : Word) : decodeWrite 0x004#9 d = decodeCommand d := if_pos rfl

theorem decodeWrite_targetAddr (i : Slot) (d : Word) : decodeWrite (targetAddr i) d = .wrTarget i d := by
  cases i <;> rfl

theorem decodeWrite_smcfgAddr (i : Slot) (d : Word) : decodeWrite (smcfgAddr i) d = .wrSmcfg i d := by
  cases i <;> rfl

theorem sevenBits_natCast {n : Nat} (h : n ≤ 127) : sevenBits n = true := by simp [sevenBits]; omega

theorem toNat_append_eq_add {m n : Nat} (x : BitVec m) (y : BitVec n) : (x ++ y).toNat = x.toNat * 2 ^ n + y.toNat := by
  rw [BitVec.toNat_append, Nat.shiftLeft_eq, Nat.mul_comm, ← Nat.two_pow_add_eq_or_of_lt y.isLt]

/-- The VALUE of `note_on` is the CMD data word of NOTE_ON, the ignored bits 0 (R63). -/
theorem ofInt_noteOnValue {n v : Nat} (hn : n ≤ 127) (hv : v ≤ 127) :
    BitVec.ofInt 32 (noteOnValue n v) = 0x01#8 ++ (0#9 ++ BitVec.ofNat 7 n ++ 0#1 ++ BitVec.ofNat 7 v) := by
  apply BitVec.eq_of_toNat_eq
  simp only [noteOnValue, BitVec.toNat_ofInt, toNat_append_eq_add, BitVec.toNat_ofNat]
  omega

/-- The VALUE of `note_off` is the CMD data word of NOTE_OFF, the ignored bits 0 (R63). -/
theorem ofInt_noteOffValue {n : Nat} (hn : n ≤ 127) :
    BitVec.ofInt 32 (noteOffValue n) = 0x02#8 ++ (0#9 ++ BitVec.ofNat 7 n ++ 0#8) := by
  apply BitVec.eq_of_toNat_eq
  simp only [noteOffValue, BitVec.toNat_ofInt, toNat_append_eq_add, BitVec.toNat_ofNat]
  omega

theorem expand_noteOn_decodes {n v : Nat} (hn : n ≤ 127) (hv : v ≤ 127) :
    ∃ w, expand (.noteOn n v) = .ok [w] ∧ decode w = .ok (.noteOn 0#9 (BitVec.ofNat 7 n) 0#1 (BitVec.ofNat 7 v)) := by
  rw [expand, if_pos (by rw [sevenBits_natCast hn, sevenBits_natCast hv]; rfl)]
  refine exists_asmWrite (by simp only [noteOnValue]; omega) (by simp only [noteOnValue]; omega) ?_
  rw [decodeWrite_cmd, ofInt_noteOnValue hn hv, Laws.RoundTrip.noteOn_fields]

theorem expand_noteOff_decodes {n : Nat} (hn : n ≤ 127) :
    ∃ w, expand (.noteOff n) = .ok [w] ∧ decode w = .ok (.noteOff 0#9 (BitVec.ofNat 7 n) 0#8) := by
  rw [expand, if_pos (sevenBits_natCast hn)]
  refine exists_asmWrite (by simp only [noteOffValue]; omega) (by simp only [noteOffValue]; omega) ?_
  rw [decodeWrite_cmd, ofInt_noteOffValue hn, Laws.RoundTrip.noteOff_fields]

theorem expand_ticks_decodes {k : Nat} (hk : 1 ≤ k) :
    ∃ w, expand (.ticks k) = .ok (List.replicate k w) ∧ decode w = .ok .tick :=
  ⟨_, if_pos (Int.ofNat_le.2 hk), decode_tickWord⟩

/-- `snap` disables the smoothing of the slot before it writes the target. -/
theorem expand_snap_decodes (i : Slot) {x : Int} (lo : -2 ^ 31 ≤ x) (hi : x < 2 ^ 32) :
    ∃ w v, expand (.snap i x) = .ok [w, v] ∧ decode w = .ok (.wrSmcfg i 0#32) ∧
      decode v = .ok (.wrTarget i (BitVec.ofInt 32 x)) := by
  obtain ⟨w, hw, hdw⟩ := exists_asmWrite (x := 0) (by decide) (by decide) (decodeWrite_smcfgAddr i _)
  obtain ⟨v, hv, hdv⟩ := exists_asmWrite lo hi (decodeWrite_targetAddr i _)
  exact ⟨w, v, by rw [expand, hw, hv]; rfl, hdw, hdv⟩

/-- Settles O5, one pseudo-instruction at a time. -/
theorem pseudoInstructionsExpandAsListed : Obligations.PseudoInstructionsExpandAsListed := by
  refine ⟨fun n v hn hv => expand_noteOn_decodes hn hv, fun n hn => expand_noteOff_decodes hn, ?nop, ?voiceReset,
    ?clrflags, ?ackirq, fun k hk => expand_ticks_decodes hk, ?scount, ?start, fun i x lo hi => expand_snap_decodes i lo hi⟩
  case nop => exact exists_asmWrite (by decide) (by decide) rfl
  case voiceReset => exact exists_asmWrite (by decide) (by decide) rfl
  case clrflags => exact exists_asmWrite (by decide) (by decide) rfl
  case ackirq => exact exists_asmWrite (by decide) (by decide) rfl
  case scount => exact ⟨_, _, rfl, decode_readWord 0x040#9, decode_readWord 0x044#9⟩
  case start => exact ⟨_, _, rfl, decode_readWord 0x048#9, decode_readWord 0x04C#9⟩

end Sys2Proof.Machine
end

section
/-! SUPPORT. READ and WRITE of the control registers (spec/40_bus_access.md), and the bad accesses (R71). -/

namespace Sys2Proof.Machine

/-! ## Bad accesses (R71) -/

/-- The gaps of the address map (R54), and every address that is not aligned. -/
theorem mapped_eq_false_of_misaligned_or_gap {a : Addr}
    (h : a.toNat % 4 ≠ 0 ∨ (0x070 < a.toNat ∧ a.toNat < 0x080) ∨ (0x0A4 < a.toNat ∧ a.toNat < 0x0C0) ∨
      (0x0E4 < a.toNat ∧ a.toNat < 0x100) ∨ (0x124 < a.toNat ∧ a.toNat < 0x140) ∨ 0x160 < a.toNat) :
    a.mapped = false := by
  simp [Addr.mapped]; omega

/-- Every writable register is mapped. -/
theorem writable_eq_false_of_unmapped {a : Addr} (h : a.mapped = false) : a.writable = false := by
  simp [Addr.mapped, Addr.writable] at h ⊢; omega

/-- ID, STATUS, the counters and observation registers, CURRENT[i] and the filter's registers are read-only. -/
theorem writable_eq_false_of_readOnly {a : Addr}
    (h : a = 0x000#9 ∨ a = 0x008#9 ∨ (0x040 ≤ a.toNat ∧ a.toNat ≤ 0x070) ∨
      (0x0C0 ≤ a.toNat ∧ a.toNat ≤ 0x0E4) ∨ (0x140 ≤ a.toNat ∧ a.toNat ≤ 0x160)) : a.writable = false := by
  rcases h with rfl | rfl | h
  · rfl
  · rfl
  · simp [Addr.writable]; omega

theorem decode_readWord_unmapped {a : Addr} (h : a.mapped = false) : decode (readWord a) = .ok (.rdBad a) := by
  rw [decode_readWord, decodeRead_unmapped a h]

theorem decode_writeWord_unwritable {a : Addr} (d : Word) (h : a.writable = false) :
    decode (writeWord a d) = .ok (.wrBad a d) := by
  rw [decode_writeWord, decodeWrite_unwritable a d h]

theorem exec_rdBad (a : Addr) (s : State) :
    exec (.rdBad a) s = .next { s with flags := s.flags ||| 0x8#4, rdata := some 0#32 } := rfl

theorem exec_wrBad (a : Addr) (d : Word) (s : State) :
    exec (.wrBad a d) s = .next { s with flags := s.flags ||| 0x8#4 } := rfl

/-- Settles O4: the regions of the statement against the decoder's map, and the effect of R71. -/
theorem badAccessSetsBadaccOnly : Obligations.BadAccessSetsBadaccOnly := by
  refine ⟨fun a h => ?_, fun a d _ h => ?_, exec_rdBad, exec_wrBad⟩
  · have hm := mapped_eq_false_of_misaligned_or_gap h
    exact ⟨decode_readWord_unmapped hm, fun d =>
      decode_writeWord_unwritable d (writable_eq_false_of_unmapped hm)⟩
  · exact decode_writeWord_unwritable d (writable_eq_false_of_readOnly h)

/-! ## Fields of a written word -/

@[simp] theorem Waveform.code_ofCode : ∀ c : BitVec 2, (Waveform.ofCode c).code = c := by decide

@[simp] theorem FilterMode.code_ofCode : ∀ c : BitVec 2, (FilterMode.ofCode c).code = c := by decide

@[simp] theorem LfoShape.code_ofCode : ∀ c : BitVec 2, (LfoShape.ofCode c).code = c := by decide

theorem toNat_extractLsb'_eq_div_mod {n : Nat} (x : BitVec n) (lo len : Nat) :
    (x.extractLsb' lo len).toNat = x.toNat / 2 ^ lo % 2 ^ len := by
  rw [BitVec.extractLsb'_toNat, Nat.shiftRight_eq_div_pow]

/-- The two-bit field at the foot of DATA. -/
theorem toNat_extractLsb'_zero_two (d : Word) : (d.extractLsb' 0 2).toNat = d.toNat % 4 := by
  rw [toNat_extractLsb'_eq_div_mod, Nat.pow_zero, Nat.div_one]; rfl

theorem getLsbD_eq_decide {n : Nat} (x : BitVec n) (k : Nat) : x.getLsbD k = decide (x.toNat / 2 ^ k % 2 = 1) := by
  rw [BitVec.getLsbD, Nat.testBit_eq_decide_div_mod_eq]

theorem getLsbD_zero_eq_decide {n : Nat} (x : BitVec n) : x.getLsbD 0 = decide (x.toNat % 2 = 1) := by
  rw [getLsbD_eq_decide, Nat.pow_zero, Nat.div_one]

/-! ## WRITE of the field registers (R78, R82, R84, R86) -/

theorem exec_wrIrqEn (d : Word) (s : State) : exec (.wrIrqEn d) s = .next { s with irqEn := d.getLsbD 0 } := rfl

theorem exec_wrOscCtrl (d : Word) (s : State) : exec (.wrOscCtrl d) s = .next { s with oscCtl := oscCtrlOf d } := rfl

theorem exec_wrFiltCtrl (d : Word) (s : State) :
    exec (.wrFiltCtrl d) s = .next { s with mode := .ofCode (d.extractLsb' 0 2) } := rfl

theorem exec_wrLfoCtrl (d : Word) (s : State) :
    exec (.wrLfoCtrl d) s = .next { s with lfo := { s.lfo with shape := .ofCode (d.extractLsb' 0 2) } } := rfl

theorem oscCtrlOf_waveA_code (d : Word) : (oscCtrlOf d).waveA.code.toNat = d.toNat % 4 := by
  rw [oscCtrlOf, Waveform.code_ofCode, toNat_extractLsb'_zero_two]

theorem oscCtrlOf_waveB_code (d : Word) : (oscCtrlOf d).waveB.code.toNat = d.toNat / 2 ^ 4 % 4 := by
  rw [oscCtrlOf, Waveform.code_ofCode, toNat_extractLsb'_eq_div_mod]; rfl

theorem oscCtrlOf_freeRun (d : Word) : (oscCtrlOf d).freeRun = decide (d.toNat / 2 ^ 8 % 2 = 1) := getLsbD_eq_decide d 8

/-- An operation and the TICK after it. -/
theorem execAll_then_tick {i : Instr} {s t : State} (h : exec i s = .next t) : execAll [i, .tick] s = exec .tick t :=
  execAll_cons [.tick] h

/-- Settles O19: each register takes its field of DATA, and the TICK after it starts from there. -/
theorem writesOfFieldRegisters : Obligations.WritesOfFieldRegisters := by
  refine ⟨rfl, rfl, rfl, fun d s => ⟨by simp [encode], ?irqEn, ?oscCtrl, ?filtCtrl, ?lfoCtrl⟩⟩
  case irqEn =>
    rw [← getLsbD_zero_eq_decide]
    exact ⟨_, exec_wrIrqEn d s, rfl, rfl⟩
  case oscCtrl =>
    exact ⟨_, exec_wrOscCtrl d s, execAll_then_tick (exec_wrOscCtrl d s), oscCtrlOf_waveA_code d,
      oscCtrlOf_waveB_code d, oscCtrlOf_freeRun d⟩
  case filtCtrl =>
    refine ⟨_, exec_wrFiltCtrl d s, execAll_then_tick (exec_wrFiltCtrl d s), ?_⟩
    rw [FilterMode.code_ofCode, toNat_extractLsb'_zero_two]
  case lfoCtrl =>
    refine ⟨_, exec_wrLfoCtrl d s, ?_⟩
    rw [LfoShape.code_ofCode, toNat_extractLsb'_zero_two]

/-! ## WRITE of the WARL registers (R88 to R100) -/

theorem clamp_eq_max_min {x lo hi : Int} (h : lo ≤ hi) : clamp x lo hi = max lo (min x hi) := by
  unfold clamp; split <;> [omega; split <;> omega]

/-- A WARL write of a 32-bit unsigned field: the value `m` it stores, and the flags it leaves. -/
theorem exists_warl_word {x lo hi : Int} {m : Nat} (h : lo ≤ hi) (h0 : 0 ≤ lo) (h1 : hi < 2 ^ 32)
    (hm : m = max lo (min x hi)) (store : Word → State → State) (s : State) :
    ∃ v : Word, (v.toNat : Int) = m ∧
      warl x lo hi store s = .next (store v { s with flags := clampFlags x lo hi s.flags }) :=
  ⟨u32 (clamp x lo hi), by rw [toNat_u32_clamp h h0 h1, clamp_eq_max_min h, hm], by rw [warl_eq, warl_flags h]⟩

/-- The same for a 24-bit field. -/
theorem exists_warl_field24 {x lo hi : Int} {m : Nat} (h : lo ≤ hi) (h0 : 0 ≤ lo) (h1 : hi < 2 ^ 24)
    (hm : m = max lo (min x hi)) (store : BitVec 24 → State → State) (s : State) :
    ∃ v : BitVec 24, (v.toNat : Int) = m ∧
      warl x lo hi (fun w => store (w.setWidth 24)) s = .next (store v { s with flags := clampFlags x lo hi s.flags }) :=
  ⟨(u32 (clamp x lo hi)).setWidth 24, by rw [toNat_u24_clamp h h0 h1, clamp_eq_max_min h, hm],
    by rw [warl_eq, warl_flags h]⟩

/-- Settles O20: each register is one WARL write of its field; the lower bound 0 clamps no unsigned value. -/
theorem writesOfClampedRegisters : Obligations.WritesOfClampedRegisters := by
  intro d s
  have wide := exists_warl_word (x := d.toNat) (lo := 1) (hi := 2 ^ 31 - 1) (m := max 1 (min d.toNat (2 ^ 31 - 1)))
    (by norm_num) (by norm_num) (by norm_num) (by omega)
  have from1 := exists_warl_field24 (x := d.toNat) (lo := 1) (hi := 2 ^ 23) (m := max 1 (min d.toNat (2 ^ 23)))
    (by norm_num) (by norm_num) (by norm_num) (by omega)
  have from0 := exists_warl_field24 (x := d.toNat) (lo := 0) (hi := 2 ^ 23) (m := min d.toNat (2 ^ 23))
    (by norm_num) (by norm_num) (by norm_num) (by omega)
  exact ⟨by simp [encode],
    wide (fun v s => s.setTuning { s.tuning with a4Ftw := v }) s,
    wide (fun v s => s.setTuning { s.tuning with ftwMin := v }) s,
    from1 (fun v s => s.setEnvCtl { s.envCtl with att := v }) s,
    from1 (fun v s => s.setEnvCtl { s.envCtl with dec := v }) s,
    from0 (fun v s => s.setEnvCtl { s.envCtl with sus := v }) s,
    from1 (fun v s => s.setEnvCtl { s.envCtl with rel := v }) s,
    from0 (fun v s => s.setEnvCtl { s.envCtl with floor := v }) s⟩

/-! ## READ: what is returned, widened to 32 bits -/

/-- A READ that answers `v`, the value being known as `w`. -/
theorem answer_of_eq {v w : Word} (h : v = w) (s : State) : answer v s = .next { s with rdata := some w } := by
  rw [answer_eq, h]

theorem zext32_eq_ofNat {n : Nat} (v : BitVec n) : zext32 v = BitVec.ofNat 32 v.toNat := (BitVec.ofNat_toNat 32 v).symm

theorem toNat_zext32 {n : Nat} (h : n ≤ 32) (v : BitVec n) : (zext32 v).toNat = v.toNat :=
  BitVec.toNat_setWidth_of_le h

theorem sext32_eq_ofInt {n : Nat} (v : BitVec n) : sext32 v = BitVec.ofInt 32 v.toInt := rfl

theorem zext32_ofBool (b : Bool) : zext32 (BitVec.ofBool b) = if b then 1#32 else 0#32 := by cases b <;> rfl

theorem lowHalf_eq_ofNat (c : BitVec 64) : c.extractLsb' 0 32 = BitVec.ofNat 32 (c.toNat % 2 ^ 32) := by
  apply BitVec.eq_of_toNat_eq
  rw [toNat_extractLsb'_eq_div_mod, BitVec.toNat_ofNat, Nat.mod_mod, Nat.pow_zero, Nat.div_one]

theorem highHalf_eq_ofNat (c : BitVec 64) : c.extractLsb' 32 32 = BitVec.ofNat 32 (c.toNat / 2 ^ 32) := by
  apply BitVec.eq_of_toNat_eq
  rw [toNat_extractLsb'_eq_div_mod, BitVec.toNat_ofNat]

/-! ## READ of the control and status registers (R72 to R89) -/

/-- The layout of STATUS (R74) as a number: VELOCITY from bit 16, NOTE from bit 8, ACTIVE bit 3, STAGE below. -/
theorem statusWord_eq_ofNat (v : Voice) :
    statusWord v = BitVec.ofNat 32 (v.vel.toNat * 2 ^ 16 + v.note.toNat * 2 ^ 8 +
      ((BitVec.ofBool v.stage.active).toNat * 2 ^ 3 + v.stage.code.toNat)) := by
  rw [statusWord, zext32_eq_ofNat]
  simp only [toNat_append_eq_add, BitVec.toNat_ofNat]
  congr 1; omega

/-- Settles O9: the layout of STATUS stage by stage, and FLAGS zero-extended. -/
theorem readsOfIdStatusAndFlags : Obligations.ReadsOfIdStatusAndFlags := by
  refine ⟨by simp [encode], fun s => ⟨answer_eq 0x53460100#32 s, answer_eq 0#32 s, answer_of_eq ?_ s,
    answer_of_eq (zext32_eq_ofNat s.flags) s⟩⟩
  rw [statusWord_eq_ofNat]
  cases s.voice.stage <;> rfl

/-- The layout of OSC_CTRL (R81) as a number: FREE_RUN bit 8, WAVE_B from bit 4, WAVE_A from bit 0. -/
theorem toNat_oscCtrlWord (c : OscCtrl) :
    (oscCtrlWord c).toNat = (if c.freeRun then 2 ^ 8 else 0) + c.waveB.code.toNat * 2 ^ 4 + c.waveA.code.toNat := by
  rw [oscCtrlWord, toNat_zext32 (by norm_num)]
  simp only [toNat_append_eq_add, BitVec.toNat_ofNat]
  cases c.freeRun <;> simp <;> omega

theorem exec_rdOscCtrl (s : State) : exec .rdOscCtrl s = .next { s with rdata := some (oscCtrlWord s.oscCtl) } := rfl

theorem exec_rdFiltCtrl (s : State) : exec .rdFiltCtrl s = .next { s with rdata := some (zext32 s.mode.code) } := rfl

theorem exec_rdLfoCtrl (s : State) : exec .rdLfoCtrl s = .next { s with rdata := some (zext32 s.lfo.shape.code) } := rfl

/-- Settles O10: each register's layout, and the named codes one by one. -/
theorem readsOfControlRegisters : Obligations.ReadsOfControlRegisters := by
  refine ⟨by simp [encode], fun s => ⟨answer_of_eq (zext32_ofBool s.irqEn) s, answer_of_eq (zext32_ofBool s.irqPend) s,
    ⟨_, exec_rdOscCtrl s, toNat_oscCtrlWord s.oscCtl⟩, ⟨_, exec_rdFiltCtrl s, toNat_zext32 (by norm_num) _⟩,
    ⟨_, exec_rdLfoCtrl s, toNat_zext32 (by norm_num) _⟩, answer_eq s.tuning.a4Ftw s, answer_eq s.tuning.ftwMin s,
    ?saw, ?triangle, ?modes, ?shapes⟩⟩
  case saw => intro h; rw [exec_rdOscCtrl, h]; rfl
  case triangle => intro h; rw [exec_rdOscCtrl, h]; rfl
  case modes =>
    have codes : ∀ p ∈ [(FilterMode.lowpass, 0#32), (.highpass, 1#32), (.bandpass, 2#32), (.bypass, 3#32)],
        zext32 p.1.code = p.2 := by decide
    intro p hp h
    rw [exec_rdFiltCtrl, h, codes p hp]
  case shapes =>
    have codes : ∀ p ∈ [(LfoShape.sine, 0#32), (.triangle, 1#32), (.rampUp, 2#32), (.rampDown, 3#32)],
        zext32 p.1.code = p.2 := by decide
    intro p hp h
    rw [exec_rdLfoCtrl, h, codes p hp]

/-! ## READ of the envelope, counter and observation registers (R91 to R113) -/

/-- Settles O11: every field but ENV_ELAPSED is narrower than 32 bits and is zero-extended. -/
theorem readsOfEnvelopeRegisters : Obligations.ReadsOfEnvelopeRegisters :=
  ⟨by simp [encode], fun s => ⟨answer_of_eq (zext32_eq_ofNat s.envCtl.att) s,
    answer_of_eq (zext32_eq_ofNat s.envCtl.dec) s, answer_of_eq (zext32_eq_ofNat s.envCtl.sus) s,
    answer_of_eq (zext32_eq_ofNat s.envCtl.rel) s, answer_of_eq (zext32_eq_ofNat s.envCtl.floor) s,
    answer_of_eq (zext32_eq_ofNat s.env.level) s, answer_eq s.env.elapsed s⟩⟩

/-- READ SCOUNT_LO answers the low half from the state that has latched the high half (R101). -/
theorem exec_rdScountLo (s : State) :
    exec .rdScountLo s = answer (s.counters.scount.extractLsb' 0 32)
      { s with counters := { s.counters with shadow := s.counters.scount.extractLsb' 32 32 } } := rfl

/-- Settles O12: the halves of the counters as quotient and remainder by 2^32. -/
theorem readsOfCounters : Obligations.ReadsOfCounters := by
  refine ⟨by simp [encode], fun s => ⟨?_, answer_eq s.counters.shadow s,
    answer_of_eq (lowHalf_eq_ofNat s.counters.start) s, answer_of_eq (highHalf_eq_ofNat s.counters.start) s⟩⟩
  rw [exec_rdScountLo, answer_eq, lowHalf_eq_ofNat, highHalf_eq_ofNat]

/-- Settles O14: OUT and LFO_VALUE are sign-extended, the others are 32 bits wide. -/
theorem readsOfObservationRegisters : Obligations.ReadsOfObservationRegisters :=
  ⟨by simp [encode], fun s => ⟨answer_of_eq (sext32_eq_ofInt s.out) s, answer_eq s.osc.a s, answer_eq s.osc.b s,
    answer_eq s.lfo.phase s, answer_of_eq (sext32_eq_ofInt s.lfo.value) s, answer_eq s.ftw.a s, answer_eq s.ftw.b s⟩⟩

/-! ## Write one to clear (R76, R80) -/

theorem exec_wrFlags (d : Word) (s : State) :
    exec (.wrFlags d) s = .next { s with flags := s.flags &&& ~~~(d.extractLsb' 0 4) } := rfl

theorem exec_wrIrqPend (d : Word) (s : State) :
    exec (.wrIrqPend d) s = .next { s with irqPend := s.irqPend && !d.getLsbD 0 } := rfl

theorem getLsbD_clear (f : BitVec 4) (d : Word) {k : Nat} (hk : k < 4) :
    (f &&& ~~~(d.extractLsb' 0 4)).getLsbD k = (f.getLsbD k && !d.getLsbD k) := by
  simp [hk]

theorem not_getLsbD_zero (d : Word) : (!d.getLsbD 0) = decide (d.toNat % 2 = 0) := by
  rw [getLsbD_zero_eq_decide, ← decide_not, decide_eq_decide]; omega

/-- Settles O18: the mask bit by bit. -/
theorem writeOneToClear : Obligations.WriteOneToClear := by
  refine fun d s => ⟨by simp [encode], ⟨_, exec_wrFlags d s, fun k hk => getLsbD_clear s.flags d hk, rfl⟩, ?_⟩
  rw [exec_wrIrqPend, not_getLsbD_zero]

end Sys2Proof.Machine
end

section
/-! SUPPORT. The parameter slots (spec/41_parameters.md): the five operations of a slot, and the smoother. -/

namespace Sys2Proof.Machine

/-! ## The smoothing step (R130) -/

theorem sgn_eq_sign (v : Int) : sgn v = v.sign := by
  unfold sgn
  split
  · rw [Int.sign_eq_neg_one_of_neg ‹_›]
  · split
    · subst v; rfl
    · rw [Int.sign_eq_one_of_pos (by omega)]

theorem absv_eq_natAbs (v : Int) : absv v = v.natAbs := by unfold absv; split <;> omega

/-- The step of a slot whose registers are in range, in the words of R130. -/
theorem slotValue_smoothSlot_eq {i : Slot} {r : SlotRegs} (h : r.Legal i) :
    slotValue i (smoothSlot i r).cur =
      let d := slotValue i r.tgt - slotValue i r.cur
      let m0 := max 1 ((d.natAbs : Int) / 2 ^ r.shift.toNat)
      let m := if r.maxstep = 0#24 then m0 else min m0 r.maxstep.toNat
      if d = 0 then slotValue i r.cur else slotValue i r.cur + d.sign * m := by
  have hcap : r.maxstep.toNat ≠ 0 ↔ ¬r.maxstep = 0#24 := not_congr (BitVec.toNat_eq (y := 0#24)).symm
  rw [slotValue_smoothSlot h.1 h.2]
  simp only [smoothStep, smoothSize, sgn_eq_sign, absv_eq_natAbs, asr, fdiv, hcap, ite_not, ne_eq]

/-- A TICK is one smoothing step of every slot. -/
theorem tick_slots_get (s : State) (i : Slot) : (tick s).slots.get i = smoothSlot i (s.slots.get i) := by
  rw [tick_slots, smoothAll_get]

/-- Settles O30: a TICK takes one step of every slot, which is that of R130 in a legal slot. -/
theorem smoothingStepOfEverySlot : Obligations.SmoothingStepOfEverySlot := by
  refine fun s hs => ⟨tick s, exec_tick s, fun i => ?_⟩
  rw [tick_slots_get]
  exact ⟨slotValue_smoothSlot_eq (hs.slots i), rfl⟩

/-! ## The properties of the smoother (R131) -/

theorem smoothStep_le_maxstep (tgt cur : Int) (shift : Nat) {maxstep : Nat} (h : maxstep ≠ 0) :
    (smoothStep tgt cur shift maxstep - cur).natAbs ≤ maxstep := by
  have cap := smoothSize_le_maxstep (tgt - cur) shift h
  rcases smoothStep_cases tgt cur shift maxstep with ⟨ht, e⟩ | ⟨ht, e⟩ | ⟨ht, e⟩
  · omega
  all_goals
    have pos := (smoothSize_range (d := tgt - cur) (by omega) shift maxstep).1
    omega

/-- R131: "exactly after at most `|d|` ticks" rests on a distance that falls by at least 1 until it is 0. -/
theorem smoothStep_natAbs_lt {tgt cur : Int} (shift maxstep : Nat) (h : cur ≠ tgt) :
    (tgt - smoothStep tgt cur shift maxstep).natAbs < (tgt - cur).natAbs := by
  have closer := smoothStep_dist tgt cur shift maxstep
  rw [absv_eq_natAbs, absv_eq_natAbs] at closer
  omega

theorem smoothStep_self (v : Int) (shift maxstep : Nat) : smoothStep v v shift maxstep = v := by simp [smoothStep]

/-- A slot at its target stays as it is. -/
theorem smoothSlot_eq_self {i : Slot} {r : SlotRegs} (h : slotValue i r.cur = slotValue i r.tgt) : smoothSlot i r = r := by
  rw [smoothSlot, h, smoothStep_self, ← h, u32_slotValue]

theorem smoothSlot_legal {i : Slot} {r : SlotRegs} (h : r.Legal i) : (smoothSlot i r).Legal i :=
  ⟨h.1, smoothSlot_within h.1 h.2⟩

/-- The bounded time of R131, over steps of one slot. -/
theorem iterate_smoothSlot_reaches_target {i : Slot} {n : Nat} {r : SlotRegs} (h : r.Legal i)
    (hn : (slotValue i r.tgt - slotValue i r.cur).natAbs ≤ n) :
    slotValue i ((smoothSlot i)^[n] r).cur = slotValue i r.tgt := by
  induction n generalizing r with
  | zero => rw [Function.iterate_zero_apply]; omega
  | succ n ih =>
    rw [Function.iterate_succ_apply]
    refine ih (smoothSlot_legal h) ?_
    rw [smoothSlot_tgt]
    by_cases he : slotValue i r.cur = slotValue i r.tgt
    · rw [smoothSlot_eq_self he]; omega
    · rw [slotValue_smoothSlot h.1 h.2]
      have := smoothStep_natAbs_lt r.shift.toNat r.maxstep.toNat he
      omega

/-- Over TICKs alone a slot takes its smoothing steps and nothing else. -/
theorem ticks_slots_get {n : Nat} {s u : State} (h : ticks n s = .next u) (i : Slot) :
    u.slots.get i = (smoothSlot i)^[n] (s.slots.get i) := by
  induction n generalizing s with
  | zero => cases h; rfl
  | succ n ih => rw [Function.iterate_succ_apply, ← tick_slots_get]; exact ih h

/-- Settles O31: the properties of one step, and for the bounded time an induction over the steps of the slot. -/
theorem smootherConvergesWithoutOvershoot : Obligations.SmootherConvergesWithoutOvershoot := by
  intro s t i hs ht
  obtain rfl := eq_tick_of_exec ht
  have hr := hs.slots i
  have hcur := slotValue_smoothSlot hr.1 hr.2
  rw [← tick_slots_get] at hcur
  refine ⟨?between, ?closer, ?capped, ?settled, ?reached⟩
  case between =>
    rw [hcur]
    exact smoothStep_within _ _ ⟨min_le_right _ _, le_max_right _ _⟩ ⟨min_le_left _ _, le_max_left _ _⟩
  case closer => rw [hcur]; exact smoothStep_natAbs_lt _ _
  case capped =>
    intro hm
    rw [hcur]
    exact smoothStep_le_maxstep _ _ _ fun h0 => hm (BitVec.eq_of_toNat_eq h0)
  case settled => rw [tick_slots_get]; exact smoothSlot_eq_self
  case reached =>
    intro n u hn hu
    rw [ticks_slots_get hu]
    exact iterate_smoothSlot_reaches_target hr hn

/-! ## READ of the slot registers (R126, R127, R129) -/

theorem encode_rdTarget (i : Slot) : encode (.rdTarget i) = readWord (targetAddr i) := by cases i <;> rfl

theorem encode_rdCurrent (i : Slot) : encode (.rdCurrent i) = readWord (currentAddr i) := by cases i <;> rfl

theorem encode_rdSmcfg (i : Slot) : encode (.rdSmcfg i) = readWord (smcfgAddr i) := by cases i <;> rfl

/-- The layout of SMCFG (R129) as a number: MAXSTEP from bit 8, SHIFT below. -/
theorem smcfgWord_eq_ofNat (shift : BitVec 5) (maxstep : BitVec 24) :
    maxstep ++ 0#3 ++ shift = BitVec.ofNat 32 (maxstep.toNat * 2 ^ 8 + shift.toNat) := by
  apply BitVec.eq_of_toNat_eq
  simp only [toNat_append_eq_add, BitVec.toNat_ofNat]
  omega

/-- Settles O16: the three READs answer a field each, SMCFG the two of its layout. -/
theorem readsOfSlotRegisters : Obligations.ReadsOfSlotRegisters := fun i s =>
  ⟨encode_rdTarget i, encode_rdCurrent i, encode_rdSmcfg i, exec_rdTarget i s, exec_rdCurrent i s,
    (exec_rdSmcfg i s).trans (answer_of_eq (smcfgWord_eq_ofNat _ _) s)⟩

/-! ## WRITE of the slot registers (R125, R128) -/

theorem encode_wrTarget (i : Slot) (d : Word) : encode (.wrTarget i d) = writeWord (targetAddr i) d := by cases i <;> rfl

theorem encode_wrSmcfg (i : Slot) (d : Word) : encode (.wrSmcfg i d) = writeWord (smcfgAddr i) d := by cases i <;> rfl

@[simp] theorem SlotFile.set_set (f : SlotFile) (i : Slot) (q r : SlotRegs) : (f.set i q).set i r = f.set i r := by
  cases i <;> rfl

/-- WRITE TARGET[i], a WARL write of one field: the word it stores, and the CLAMP it may set. -/
theorem exec_wrTarget_eq (i : Slot) (d : Word) (s : State) :
    exec (.wrTarget i d) s = .next { s with
      slots := s.slots.set i
        { s.slots.get i with tgt := u32 (clamp (slotValue i d) (slotRow i).lo (slotRow i).hi) }
      flags := clampFlags (slotValue i d) (slotRow i).lo (slotRow i).hi s.flags } := by
  rw [exec_wrTarget, writeTarget, warl_eq, warl_flags (slotRow_lo_le_hi i)]; rfl

theorem slotValue_u32_clamp (i : Slot) (x : Int) :
    slotValue i (u32 (clamp x (slotRow i).lo (slotRow i).hi)) = max (slotRow i).lo (min x (slotRow i).hi) := by
  have h := slotRow_lo_le_hi i
  rw [slotValue_u32 (le_clamp h) (clamp_le h), clamp_eq_max_min h]

/-- Settles O21: one WARL write of TARGET[i]; the second write replaces the first in the slot file. -/
theorem writeTargetClampsAndFlags : Obligations.WriteTargetClampsAndFlags := by
  refine ⟨by decide, fun _ _ => rfl, fun i d s => ⟨encode_wrTarget i d, _, exec_wrTarget_eq i d s, ?_⟩⟩
  refine ⟨?value, rfl, ?slot, fun j hj => SlotFile.get_set_of_ne _ _ hj, rfl, fun e => ?again⟩
  case value => rw [SlotFile.get_set_self]; exact slotValue_u32_clamp i (slotValue i d)
  case slot => rw [SlotFile.get_set_self]
  case again =>
    refine ⟨_, _, exec_wrTarget_eq i e _, exec_wrTarget_eq i e s, ?_⟩
    simp only [SlotFile.get_set_self, SlotFile.set_set]

theorem exec_wrSmcfg_eq (i : Slot) (d : Word) (s : State) :
    exec (.wrSmcfg i d) s = .next { s with
      slots := s.slots.set i
        { s.slots.get i with shift := d.extractLsb' 0 5, maxstep := d.extractLsb' 8 24 } } := exec_wrSmcfg i d s

/-- With SHIFT 0 and MAXSTEP 0 one step covers the whole distance (R128: "jump to its target in one tick"). -/
theorem smoothStep_zero_zero (tgt cur : Int) : smoothStep tgt cur 0 0 = tgt := by
  have size (hd : tgt - cur ≠ 0) : smoothSize (tgt - cur) 0 0 = (tgt - cur).natAbs := by
    simp only [smoothSize, absv_eq_natAbs, asr, fdiv, pow_zero, Int.ediv_one]; omega
  rw [smoothStep]
  split
  · rw [size ‹_›, sgn_eq_sign, Int.sign_mul_natAbs]; omega
  · omega

theorem smoothSlot_cur_of_unsmoothed (i : Slot) {r : SlotRegs} (hs : r.shift.toNat = 0) (hm : r.maxstep.toNat = 0) :
    (smoothSlot i r).cur = r.tgt := by
  rw [smoothSlot, hs, hm, smoothStep_zero_zero, u32_slotValue]

/-- Settles O22: the fields as quotient and remainder of DATA, and the next step of a slot that is not smoothed. -/
theorem writeSmcfgTakesItsFields : Obligations.WriteSmcfgTakesItsFields := by
  intro i d s
  have shift : (d.extractLsb' 0 5).toNat = d.toNat % 2 ^ 5 := by
    rw [toNat_extractLsb'_eq_div_mod, Nat.pow_zero, Nat.div_one]
  have maxstep : (d.extractLsb' 8 24).toNat = d.toNat / 2 ^ 8 := by
    rw [toNat_extractLsb'_eq_div_mod]; omega
  refine ⟨encode_wrSmcfg i d, _, exec_wrSmcfg_eq i d s, ?_⟩
  rw [SlotFile.get_set_self]
  refine ⟨shift, maxstep, rfl, rfl, fun j hj => SlotFile.get_set_of_ne _ _ hj, rfl, fun h0 h1 => ⟨_, exec_tick _, ?_⟩⟩
  rw [tick_slots_get, SlotFile.get_set_self]
  exact smoothSlot_cur_of_unsmoothed i (shift.trans h0) (maxstep.trans h1)

end Sys2Proof.Machine
end

section
/-! SUPPORT. The commands: NOP and the reserved opcodes, NOTE_ON, NOTE_OFF and VOICE_RESET (spec/42_commands.md R133 to
R137). -/

namespace Sys2Proof.Machine

/-! ## NOP and the reserved commands (R133, R137) -/

theorem exec_nop (x : BitVec 24) (s : State) : exec (.nop x) s = .next s := rfl

/-- A reserved command sets FLAGS.BADCMD, whatever its opcode and its ignored bits (R137). -/
theorem exec_reservedCommand {i : Instr} (h : reservedCommand i = true) (s : State) :
    exec i s = .next { s with flags := s.flags ||| 0x4#4 } := by
  cases i
  case cmdReserved04To07 | cmdReserved08To0F | cmdReserved10To1F | cmdReserved20To3F | cmdReserved40To7F
      | cmdReserved80ToFF => rfl
  all_goals cases h

/-- Every opcode from 0x04 on lies in one of the six reserved ranges (R66). -/
theorem reservedCommand_decodeCommand {op : BitVec 8} (x : BitVec 24) (h : 4 ≤ op.toNat) :
    reservedCommand (decodeCommand (op ++ x)) = true := by
  rw [decodeCommand_reserved x h]; split_ifs <;> rfl

/-- Settles O24: the six constructors are reserved commands, and so is what the decoder makes of opcodes from 0x04 on. -/
theorem nopAndReservedCommands : Obligations.NopAndReservedCommands := by
  intro s op x
  refine ⟨exec_nop x s, Laws.RoundTrip.nop x rfl, exec_reservedCommand rfl s, exec_reservedCommand rfl s,
    exec_reservedCommand rfl s, exec_reservedCommand rfl s, exec_reservedCommand rfl s, exec_reservedCommand rfl s, fun h => ?_⟩
  rw [busWrite, decodeWrite_cmd]
  exact exec_reservedCommand (reservedCommand_decodeCommand x h) s

/-! ## NOTE_ON, NOTE_OFF and VOICE_RESET (R134 to R136) -/

theorem exec_noteOn (x : BitVec 9) (note : BitVec 7) (x7 : BitVec 1) (vel : BitVec 7) (s : State) :
    exec (.noteOn x note x7 vel) s = .next { s with
      voice := { stage := .attack, note := note, vel := vel }
      env := { level := 0#25, elapsed := 0#32 }
      counters := { s.counters with start := s.counters.scount }
      osc := if s.oscCtl.freeRun then s.osc else .zero
      hist := .cleared } := rfl

theorem exec_noteOff (x : BitVec 9) (note : BitVec 7) (y : BitVec 8) (s : State) :
    exec (.noteOff x note y) s = .next (if releases note s.voice then
      { s with voice := { s.voice with stage := .release }, env := { s.env with elapsed := 0#32 } } else s) := rfl

theorem exec_voiceReset (x : BitVec 24) (s : State) :
    exec (.voiceReset x) s = .next { s with
      voice := { s.voice with stage := .idle }
      env := { level := 0#25, elapsed := 0#32 }
      osc := .zero
      hist := .cleared } := rfl

theorem releases_iff (note : BitVec 7) (v : Voice) :
    releases note v = true ↔ (v.stage = .attack ∨ v.stage = .decay ∨ v.stage = .sustain) ∧ note = v.note := by
  simp only [releases, Bool.and_eq_true, Bool.or_eq_true, beq_iff_eq, or_assoc]

theorem tick_out_of_idle {s : State} (h : s.voice.stage = .idle) : (tick s).out = 0#24 := by rw [tick_idle h]

/-- A TICK outputs the sample at the level before its envelope step, so 0 from level 0, whatever the stage (R177). -/
theorem tick_out_of_level_zero {s : State} (h : s.env.level = 0#25) : (tick s).out = 0#24 := by
  by_cases hi : s.voice.stage = .idle
  · exact tick_out_of_idle hi
  · have silent : sampleOf s = 0 := by
      rw [sampleOf, tickSample, tickFree_env, h]; exact amp_level_zero _ _ _
    rw [tick_active hi, silent]; rfl

/-- Settles O25: the word's fields are the operands, and the attack begins at level 0. -/
theorem noteOnStartsTheVoice : Obligations.NoteOnStartsTheVoice := fun x note x7 vel s =>
  ⟨exec_noteOn x note x7 vel s, Laws.RoundTrip.noteOn x note x7 vel rfl, _,
    execAll_then_tick (exec_noteOn x note x7 vel s), tick_out_of_level_zero rfl⟩

/-- Settles O26: the two cases of the command's own test. -/
theorem noteOffReleasesTheSoundingNote : Obligations.NoteOffReleasesTheSoundingNote := by
  intro x note y s
  refine ⟨?_, Laws.RoundTrip.noteOff x note y rfl⟩
  rw [exec_noteOff]
  by_cases h : releases note s.voice = true
  · rw [if_pos h, if_pos ((releases_iff note s.voice).1 h)]
  · rw [if_neg h, if_neg (mt (releases_iff note s.voice).2 h)]

/-- Settles O27: the voice is IDLE at once, so the next TICK is gated. -/
theorem voiceResetSilencesTheVoice : Obligations.VoiceResetSilencesTheVoice := fun x s =>
  ⟨exec_voiceReset x s, Laws.RoundTrip.voiceReset x rfl, _, execAll_then_tick (exec_voiceReset x s), tick_out_of_idle rfl⟩

end Sys2Proof.Machine
end

section
/-! SUPPORT. TICK (spec/43_tick.md R138, R139): its steps in the words of R138, and the TICKs of an IDLE voice. -/

namespace Sys2Proof.Machine

/-! ## The phase advance in 32 bits (R138, lines 2 and 6) -/

/-- Storing 32 bits already reduces modulo 2^32. -/
theorem u32_wrap32 (v : Int) : u32 (wrap32 v) = BitVec.ofInt 32 v := by
  apply BitVec.eq_of_toInt_eq
  rw [u32, wrap32, BitVec.toInt_ofInt, BitVec.toInt_ofInt]
  exact Int.emod_bmod v (2 ^ 32 : Nat)

theorem u32_wrap32_add_toNat (x y : Word) : u32 (wrap32 (x.toNat + y.toNat)) = x + y := by
  simp [u32_wrap32, BitVec.ofInt_add]

/-! ## The eight steps, over the registers TICK leaves (R138, R140) -/

/-- Steps 1 to 4 write the slots, the LFO, the increments and the coefficients. -/
theorem tickFree_frame (s : State) :
    tickFree s =
      { s with slots := (tick s).slots, lfo := (tick s).lfo, ftw := (tick s).ftw, coef := (tick s).coef } := by
  rw [tick_slots, tick_lfo, tick_ftw, tick_coef]; rfl

/-- Step 2, with the smoothed LFO_RATE. -/
theorem tick_lfo_eq (s : State) :
    (tick s).lfo = { s.lfo with
      value := BitVec.ofInt 25 (tickLv s)
      phase := BitVec.ofInt 32 (s.lfo.phase.toNat + curOf .lfoRate (tick s)) } := by
  rw [tick_lfo, tickFree_lfo, u32_wrap32, curOf_tick]

/-- Step 3, with the smoothed BEND, DEPTH_PITCH and DETUNE. -/
theorem tick_ftw_eq (s : State) :
    (tick s).ftw =
      let pA := pitchA s.voice.note.toNat (curOf .bend (tick s)) (curOf .depthPitch (tick s)) (tickLv s)
      { a := u32 (p2f s.tuning.a4Ftw.toNat s.tuning.ftwMin.toNat pA)
        b := u32 (p2f s.tuning.a4Ftw.toNat s.tuning.ftwMin.toNat (pitchB pA (curOf .detune (tick s)))) } := by
  rw [tick_ftw, tickFree_ftw, curOf_tick, curOf_tick, curOf_tick]

/-- Step 4, with the smoothed CUTOFF, DEPTH_CUT and RES. -/
theorem tick_coef_eq (s : State) :
    (tick s).coef =
      (coefValues s.mode (cutoffEff (curOf .cutoff (tick s)) (curOf .depthCut (tick s)) (tickLv s))
        (curOf .res (tick s))).store := by
  rw [tick_coef, tickFree_coef, curOf_tick, curOf_tick, curOf_tick]

/-- The mix of step 6: each oscillator at its phase before the advance, with this TICK's increment. -/
theorem mixOf_eq (s : State) :
    mixOf s = mix (osc s.oscCtl.waveA s.osc.a.toNat (tick s).ftw.a.toNat)
      (osc s.oscCtl.waveB s.osc.b.toNat (tick s).ftw.b.toNat) (curOf .mix (tick s)) := by
  rw [mixOf, tickMix, tickFree_oscCtl, tickFree_osc, tick_ftw, curOf_tick]

/-- The sample of step 6: this TICK's coefficients and gain, and the level before the envelope step. -/
theorem sampleOf_eq (s : State) :
    sampleOf s = amp (biquadOut (tick s).coef s.hist (mixOf s)) s.env.level.toNat
      (gainEff (curOf .gain (tick s)) (curOf .depthAmp (tick s)) (tickLv s)) s.voice.vel.toNat := by
  rw [sampleOf, tickSample, tickGain, tickFree_hist, tickFree_env, tickFree_voice, tick_coef, curOf_tick, curOf_tick]

/-- R139: a TICK of an IDLE voice in full. -/
theorem tick_frame_idle {s : State} (h : s.voice.stage = .idle) :
    tick s = { s with
      slots := (tick s).slots, lfo := (tick s).lfo, ftw := (tick s).ftw, coef := (tick s).coef
      counters := (tick s).counters, out := 0#24 } := by
  rw [tick_counters]
  conv_lhs => rw [tick_idle h, tickFree_frame]

/-- A TICK of an active voice in full. -/
theorem tick_frame_active {s : State} (h : s.voice.stage ≠ .idle) :
    tick s = { s with
      slots := (tick s).slots, lfo := (tick s).lfo, ftw := (tick s).ftw, coef := (tick s).coef
      counters := (tick s).counters
      osc := { a := s.osc.a + (tick s).ftw.a, b := s.osc.b + (tick s).ftw.b }
      hist := biquadHist (tick s).coef s.hist (mixOf s)
      flags := if biquadSat (tick s).coef s.hist (mixOf s) then s.flags ||| 0x2#4 else s.flags
      voice := { s.voice with stage := (envOf s).stage }
      env := { level := BitVec.ofInt 25 (envOf s).level, elapsed := BitVec.ofInt 32 (envOf s).elapsed }
      irqPend := s.irqPend || (envOf s).ended
      out := BitVec.ofInt 24 (sampleOf s) } := by
  rw [tick_counters]
  conv_lhs => rw [tick_active h, u32_wrap32_add_toNat, u32_wrap32_add_toNat, ← tick_ftw, ← tick_coef, tickFree_frame]
  rfl

/-- Settles O29: each step over the registers the TICK leaves, and the whole state of each case. -/
theorem tickRunsItsStepsInOrder : Obligations.TickRunsItsStepsInOrder := by
  refine ⟨rfl, fun s => ⟨tick s, exec_tick s, tick_slots_get s, tick_lfo_eq s, tick_ftw_eq s, tick_coef_eq s,
    tick_counters s, tick_frame_idle, fun h => ?active⟩⟩
  case active =>
    have frame := tick_frame_active h
    rw [sampleOf_eq, mixOf_eq] at frame
    exact frame

/-! ## TICKs of an IDLE voice (R139) -/

/-- What the gate of step 6 keeps: `t` has the voice, the phases, the history, the envelope, FLAGS and IRQ_PEND of `s`. -/
structure VoicePathKept (s t : State) : Prop where
  voice : t.voice = s.voice
  osc : t.osc = s.osc
  hist : t.hist = s.hist
  env : t.env = s.env
  flags : t.flags = s.flags
  irqPend : t.irqPend = s.irqPend

theorem VoicePathKept.refl (s : State) : VoicePathKept s s := ⟨rfl, rfl, rfl, rfl, rfl, rfl⟩

theorem VoicePathKept.trans {s t u : State} (a : VoicePathKept s t) (b : VoicePathKept t u) : VoicePathKept s u :=
  ⟨b.voice.trans a.voice, b.osc.trans a.osc, b.hist.trans a.hist, b.env.trans a.env, b.flags.trans a.flags,
    b.irqPend.trans a.irqPend⟩

theorem tick_voicePathKept {s : State} (h : s.voice.stage = .idle) : VoicePathKept s (tick s) := by
  rw [tick_frame_idle h]; constructor <;> rfl

theorem ticks_voicePathKept {n : Nat} {s t : State} (h : s.voice.stage = .idle) (ht : ticks n s = .next t) :
    VoicePathKept s t := by
  induction n generalizing s with
  | zero => cases ht; exact .refl _
  | succ n ih =>
    have kept := tick_voicePathKept h
    exact kept.trans (ih (by rw [kept.voice, h]) ht)

/-- SCOUNT counts the TICKs, whatever the stage (R141). -/
theorem ticks_scount {n : Nat} {s t : State} (ht : ticks n s = .next t) :
    t.counters.scount = s.counters.scount + BitVec.ofNat 64 n := by
  induction n generalizing s with
  | zero => cases ht; exact (BitVec.add_zero _).symm
  | succ n ih =>
    rw [ih ht, tick_counters, BitVec.add_assoc, ← BitVec.ofNat_add, Nat.add_comm]

/-- Settles O45: the last TICK starts from an IDLE state, so it outputs 0. -/
theorem silentWhileIdle : Obligations.SilentWhileIdle := by
  intro s n h
  obtain ⟨t, ht⟩ := execAll_completes (List.replicate n .tick) s
  have last : ticks (n + 1) s = .next (tick t) := ticks_succ_last ht
  have idle : t.voice.stage = .idle := by rw [(ticks_voicePathKept h ht).voice, h]
  have kept := ticks_voicePathKept h last
  refine ⟨tick t, last, tick_out_of_idle idle, kept.voice, kept.osc, kept.hist, kept.env, kept.flags, kept.irqPend, ?count⟩
  case count =>
    rw [ticks_scount last, BitVec.toNat_add, BitVec.toNat_ofNat]
    omega

end Sys2Proof.Machine
end

section
/-! SUPPORT. The oscillators (spec/44_oscillator.md): what moves the phase accumulators (R152). -/

namespace Sys2Proof.Machine

theorem tick_osc_active {s : State} (h : s.voice.stage ≠ .idle) :
    (tick s).osc = { a := s.osc.a + (tick s).ftw.a, b := s.osc.b + (tick s).ftw.b } :=
  congrArg State.osc (tick_frame_active h)

/-- The operations that clear the phases: NOTE_ON unless FREE_RUN, VOICE_RESET and RESET (R134, R136, R192). -/
def ClearsPhases (s : State) (i : Instr) : Prop :=
  (∃ x n x7 v, i = .noteOn x n x7 v ∧ s.oscCtl.freeRun = false) ∨ (∃ x, i = .voiceReset x) ∨ i = .reset

theorem Effect.osc_kept_or_cleared {s t : State} {i : Instr} (h : Effect s i t) (hi : i ≠ .tick) :
    t.osc = s.osc ∨ t.osc = .zero ∧ ClearsPhases s i := by
  cases h
  case tick => exact absurd rfl hi
  case noteOn x note x7 vel =>
    cases free : s.oscCtl.freeRun
    case false => exact .inr ⟨rfl, .inl ⟨x, note, x7, vel, rfl, free⟩⟩
    case true => exact .inl rfl
  case voiceReset x => exact .inr ⟨rfl, .inr (.inl ⟨x, rfl⟩)⟩
  case reset => exact .inr ⟨rfl, .inr (.inr rfl)⟩
  all_goals exact .inl rfl

/-- Settles O32: a TICK by its two cases, every other operation by its effect. -/
theorem phasesAdvanceOnlyWhileActive : Obligations.PhasesAdvanceOnlyWhileActive := by
  intro i s t h
  refine ⟨?active, ?idle, fun hi moved => ((effect_of_exec h).osc_kept_or_cleared hi).resolve_left moved⟩
  case active =>
    rintro rfl active
    rw [eq_tick_of_exec h, tick_osc_active active]
    exact ⟨BitVec.toNat_add _ _, BitVec.toNat_add _ _⟩
  case idle =>
    rintro rfl idle
    rw [eq_tick_of_exec h]
    exact (tick_voicePathKept idle).osc

end Sys2Proof.Machine
end

section
/-! SUPPORT. The filter (spec/45_filter.md): the registers hold the coefficients of the formulas (R158 to R165), and the
difference equation with its history (R166). -/

namespace Sys2Proof.Machine

/-! ## The coefficients (R158 to R165) -/

theorem cutoffEff_eq_max_min (cut depth lv : Int) :
    cutoffEff cut depth lv = max 0x00040000 (min (cut + lv * depth / 2 ^ 23) 0x7C000000) :=
  clamp_eq_max_min (by decide)

/-- R161: the bounds of sn and alpha, and so of a0, over the legal cutoff and resonance range. -/
theorem coefSn_alpha_a0_range {c q : Int} (c0 : 0x00040000 ≤ c) (c1 : c ≤ 0x7C000000) (q0 : 0x0800 ≤ q) (q1 : q ≤ 0xFFFF) :
    3217 ≤ coefSn c ∧ coefSn c ≤ 2 ^ 23 ∧ 100 ≤ coefAlpha c q ∧ 2 ^ 23 < coefA0 c q := by
  have sn := coefSn_range c0 c1
  have alpha := coefAlpha_range c0 c1 q0 q1
  exact ⟨sn.1, sn.2, alpha.1, by unfold coefA0; omega⟩

/-- The signed registers hold the coefficients of a legal cutoff and resonance without truncation (R45). -/
theorem store_coefValues_toInt (mode : FilterMode) {c q : Int} (c0 : 0x00040000 ≤ c) (c1 : c ≤ 0x7C000000)
    (q0 : 0x0800 ≤ q) (q1 : q ≤ 0xFFFF) :
    let k := coefValues mode c q
    k.store.b0.toInt = k.b0 ∧ k.store.b1.toInt = k.b1 ∧ k.store.b2.toInt = k.b2 ∧ k.store.a1.toInt = k.a1 ∧
      k.store.a2.toInt = k.a2 := by
  obtain ⟨b0, b1, b2, a1, a2⟩ := coefValues_fit mode c0 c1 q0 q1
  exact ⟨u32_toInt b0.1 b0.2, u32_toInt b1.1 b1.2, u32_toInt b2.1 b2.2, u32_toInt a1.1 a1.2, u32_toInt a2.1 a2.2⟩

/-- The feedback coefficients are the same in the three modes that filter. -/
theorem coefValues_feedback {mode : FilterMode} (h : mode ≠ .bypass) (c q : Int) :
    (coefValues mode c q).a1 = coefA1 c q ∧ (coefValues mode c q).a2 = coefA2 c q := by
  cases mode
  case bypass => exact absurd rfl h
  all_goals exact ⟨rfl, rfl⟩

theorem store_coefValues_bypass (c q : Int) :
    (coefValues .bypass c q).store = { b0 := 0x20000000#32, b1 := 0#32, b2 := 0#32, a1 := 0#32, a2 := 0#32 } := rfl

/-- A TICK keeps every CURRENT in the range of its slot (R131). -/
theorem curOf_tick_within {s : State} (h : s.Legal) (i : Slot) :
    within (slotRow i).lo (curOf i (tick s)) (slotRow i).hi := by
  rw [curOf, tick_slots_get]
  exact (smoothSlot_legal (h.slots i)).2

/-- Settles O36: every coefficient fits its register, and each mode's formulas are those of the model. -/
theorem coefficientsFollowTheFormulas : Obligations.CoefficientsFollowTheFormulas := by
  intro s t hs ht lv c q sn cs alpha a0 k
  obtain rfl := eq_tick_of_exec ht
  have cutoff : cutoffEff (curOf .cutoff (tick s)) (curOf .depthCut (tick s)) (tickLv s) = c := cutoffEff_eq_max_min _ _ _
  have stored : k = (coefValues s.mode c q).store := by rw [← cutoff]; exact tick_coef_eq s
  have hc : within 0x00040000 c 0x7C000000 := cutoff ▸ cutoffEff_range _ _ _
  have hq : within 0x0800 q 0xFFFF := curOf_tick_within hs .res
  obtain ⟨b0, b1, b2, a1, a2⟩ := store_coefValues_toInt s.mode hc.1 hc.2 hq.1 hq.2
  rw [stored]
  refine ⟨coefSn_alpha_a0_range hc.1 hc.2 hq.1 hq.2, ?feedback, ?lowpass, ?highpass, ?bandpass, ?bypass⟩
  case feedback =>
    intro hm
    rw [a1, a2]
    exact coefValues_feedback hm c q
  case bypass =>
    intro hm
    rw [hm, store_coefValues_bypass]
    exact ⟨rfl, rfl, rfl, rfl, rfl⟩
  all_goals
    intro hm
    rw [b0, b1, b2, hm]
    exact ⟨rfl, rfl, rfl⟩

/-! ## The difference equation (R166) -/

theorem tick_hist_active {s : State} (h : s.voice.stage ≠ .idle) :
    (tick s).hist = biquadHist (tick s).coef s.hist (mixOf s) := congrArg State.hist (tick_frame_active h)

theorem tick_flags_active {s : State} (h : s.voice.stage ≠ .idle) :
    (tick s).flags = if biquadSat (tick s).coef s.hist (mixOf s) then s.flags ||| 0x2#4 else s.flags :=
  congrArg State.flags (tick_frame_active h)

/-- The mix is a sample, so the history holds it exactly. -/
theorem tick_hist_x1_active {s : State} (h : s.voice.stage ≠ .idle) : (tick s).hist.x1.toInt = mixOf s := by
  have range := mix_range (osc s.oscCtl.waveA s.osc.a.toNat (tick s).ftw.a.toNat)
    (osc s.oscCtl.waveB s.osc.b.toNat (tick s).ftw.b.toNat) (curOf .mix (tick s))
  rw [← mixOf_eq] at range
  rw [tick_hist_active h]
  exact s24_toInt range.1 range.2

theorem tick_hist_shift_active {s : State} (h : s.voice.stage ≠ .idle) :
    (tick s).hist.x2 = s.hist.x1 ∧ (tick s).hist.y2 = s.hist.y1 := by
  rw [tick_hist_active h]
  exact ⟨rfl, rfl⟩

/-- The saturated output is what is fed back. -/
theorem tick_hist_y1_active {s : State} (h : s.voice.stage ≠ .idle) :
    (tick s).hist.y1.toInt = biquadOut (tick s).coef s.hist (mixOf s) := by
  have range := biquadOut_range (tick s).coef s.hist (mixOf s)
  rw [tick_hist_active h]
  exact s24_toInt range.1 range.2

theorem biquadOut_eq_max_min (k : Coefs) (h : Hist) (x0 : Int) :
    biquadOut k h x0 = max (-2 ^ 23) (min (biquadRounded k h x0) (2 ^ 23 - 1)) := clamp_eq_max_min (by norm_num)

/-- The operations that clear the filter history (R134, R136, R192). -/
def ClearsHistory (i : Instr) : Prop :=
  (∃ x n x7 v, i = .noteOn x n x7 v) ∨ (∃ x, i = .voiceReset x) ∨ i = .reset

theorem Effect.hist_kept_or_cleared {s t : State} {i : Instr} (h : Effect s i t) (hi : i ≠ .tick) :
    t.hist = s.hist ∨ t.hist = .cleared ∧ ClearsHistory i := by
  cases h
  case tick => exact absurd rfl hi
  case noteOn x note x7 vel => exact .inr ⟨rfl, .inl ⟨x, note, x7, vel, rfl⟩⟩
  case voiceReset x => exact .inr ⟨rfl, .inr (.inl ⟨x, rfl⟩)⟩
  case reset => exact .inr ⟨rfl, .inr (.inr rfl)⟩
  all_goals exact .inl rfl

/-- Settles O38: a TICK by its two cases, every other operation by its effect. -/
theorem filterFollowsTheDifferenceEquation : Obligations.FilterFollowsTheDifferenceEquation := by
  intro i s t h
  refine ⟨?active, ?idle, fun hi moved => ((effect_of_exec h).hist_kept_or_cleared hi).resolve_left moved⟩
  case active =>
    rintro rfl active x0 acc yr
    obtain rfl := eq_tick_of_exec h
    have input : x0 = mixOf s := tick_hist_x1_active active
    have rounded : yr = biquadRounded (tick s).coef s.hist (mixOf s) := by rw [← input]; rfl
    obtain ⟨x2, y2⟩ := tick_hist_shift_active active
    refine ⟨input.trans (mixOf_eq s), ?output, x2, y2, ?sat⟩
    case output => rw [tick_hist_y1_active active, rounded, biquadOut_eq_max_min]
    case sat =>
      rw [tick_hist_y1_active active, tick_flags_active active, rounded, biquadSat]
      simp only [bne_iff_ne, ne_eq, ite_not]
  case idle =>
    rintro rfl idle
    rw [eq_tick_of_exec h]
    have kept := tick_voicePathKept idle
    exact ⟨kept.hist, kept.flags⟩

/-! ## BYPASS (R165) -/

/-- With 2^29 as the one coefficient the rounding takes nothing away. -/
theorem biquadRounded_bypass (c q : Int) (h : Hist) (x0 : Int) :
    biquadRounded (coefValues .bypass c q).store h x0 = x0 := by
  have one : (0x20000000#32).toInt = 2 ^ 29 := rfl
  rw [store_coefValues_bypass]
  simp only [biquadRounded, biquadAcc, asr, fdiv, one, BitVec.toInt_zero]
  omega

theorem biquadRounded_tick_bypass {s : State} (h : s.mode = .bypass) (x0 : Int) :
    biquadRounded (tick s).coef s.hist x0 = x0 := by
  rw [tick_coef_eq, h, biquadRounded_bypass]

/-- Settles O39: the input is a sample already, so the saturation leaves it and sets no flag. -/
theorem bypassPassesTheInputExactly : Obligations.BypassPassesTheInputExactly := by
  intro s t bypass active ht
  obtain rfl := eq_tick_of_exec ht
  have input := tick_hist_x1_active active
  have range := s24_range (tick s).hist.x1
  have output : biquadOut (tick s).coef s.hist (mixOf s) = mixOf s := by
    rw [biquadOut, biquadRounded_tick_bypass bypass, ← input]
    exact sat24_eq_self range.1 range.2
  obtain ⟨x2, y2⟩ := tick_hist_shift_active active
  refine ⟨?passed, x2, y2, ?flags, ?coef⟩
  case passed =>
    apply BitVec.eq_of_toInt_eq
    rw [tick_hist_y1_active active, output, input]
  case flags =>
    rw [tick_flags_active active, biquadSat, output, biquadRounded_tick_bypass bypass, bne_self_eq_false]
    exact if_neg Bool.false_ne_true
  case coef => rw [tick_coef_eq, bypass, store_coefValues_bypass]

end Sys2Proof.Machine
end

section
/-! SUPPORT. The LFO (spec/46_lfo.md): its four shapes (R168) and what moves its phase (R169). -/

namespace Sys2Proof.Machine

/-! ## The shapes (R168) -/

/-- At the start of a segment the sine is the entry itself: nothing is interpolated (R146). -/
theorem sine_segment_start (k : Nat) : sine (k * 2 ^ 22) = sineRom k := by
  have start : asr (k * 2 ^ 22) 22 = k := fdiv_mul_self (by norm_num)
  simp only [sine, start, Int.mul_emod_left, mul_zero, fdiv_zero_left, add_zero, Int.toNat_natCast]

/-- Settles O49: the formulas are the model's own, and the sine's two values are entries of the ROM. -/
theorem lfoShapesStayInRange : Obligations.LfoShapesStayInRange :=
  ⟨fun g _ => lfoWave_range g, fun _ => ⟨rfl, rfl, rfl, rfl⟩, (sine_segment_start 0).trans sineRom_zero, rfl, rfl, rfl,
    (sine_segment_start 256).trans sineRom_peak⟩

/-! ## The phase (R169) -/

/-- The 25 bits of LFO_VALUE hold both peaks, so the value is stored exactly. -/
theorem tick_lfo_value_toInt (s : State) : (tick s).lfo.value.toInt = tickLv s := by
  obtain ⟨lo, hi⟩ := tickLv_range s
  rw [tick_lfo_eq]
  exact toInt_ofInt_of_range (by norm_num) (by norm_num; omega) (by norm_num; omega)

theorem tick_lfo_phase_toNat (s : State) :
    ((tick s).lfo.phase.toNat : Int) = (s.lfo.phase.toNat + curOf .lfoRate (tick s)) % 2 ^ 32 := by
  obtain ⟨lo, hi⟩ := wrap32_range (s.lfo.phase.toNat + curOf .lfoRate (tick s))
  rw [tick_lfo_eq, ← u32_wrap32]
  exact u32_toNat lo hi

/-- The LFO runs free: no command but RESET, and no bus access, moves its phase. -/
theorem Effect.lfo_phase {s t : State} {i : Instr} (h : Effect s i t) (hi : i ≠ .tick) (hr : i ≠ .reset) :
    t.lfo.phase = s.lfo.phase := by
  cases h
  case tick => exact absurd rfl hi
  case reset => exact absurd rfl hr
  all_goals rfl

/-- Settles O33: a TICK by its second step, every other operation by its effect. -/
theorem lfoAdvancesEveryTick : Obligations.LfoAdvancesEveryTick := by
  intro i s t _ h
  refine ⟨?tick, (effect_of_exec h).lfo_phase⟩
  case tick =>
    rintro rfl
    rw [eq_tick_of_exec h]
    exact ⟨tick_lfo_value_toInt s, tick_lfo_phase_toNat s⟩

end Sys2Proof.Machine
end

section
/-! SUPPORT. The envelope (spec/47_envelope.md): its step on the registers (R171 to R176), the length of each segment, the
amplitude path (R177), and which operations leave and enter IDLE (R172, R178). -/

namespace Sys2Proof.Machine

/-! ## The step of a TICK on the registers (R171 to R176)

IDLE takes no step, so these hold of every TICK, active or idle. -/

theorem tick_stage (s : State) : (tick s).voice.stage = (envOf s).stage := by
  by_cases idle : s.voice.stage = .idle
  · rw [tick_idle idle, tickFree_voice, envOf, idle]; rfl
  · rw [tick_active idle]

theorem tick_irqPend (s : State) : (tick s).irqPend = (s.irqPend || (envOf s).ended) := by
  by_cases idle : s.voice.stage = .idle
  · rw [tick_idle idle, tickFree_irqPend, envOf, idle]; exact (Bool.or_false _).symm
  · rw [tick_active idle]

/-- Every level the 25 bits can hold leads to one they can hold: the attack stops at 2^23, the others do not rise. -/
theorem envStep_level_fits (c : EnvCtrl) (g : Stage) {level : Int} (elapsed : Int) (h0 : 0 ≤ level)
    (h1 : level < 2 ^ 25) :
    0 ≤ (envStep c g level elapsed).level ∧ (envStep c g level elapsed).level < 2 ^ 25 := by
  have sus := c.sus.isLt
  cases g
  case idle => exact ⟨h0, h1⟩
  case attack => simp only [envStep, attackStep]; split <;> dsimp only <;> omega
  case decay => simp only [envStep, decayStep]; split <;> dsimp only <;> omega
  case sustain => simp only [envStep, sustainStep]; omega
  case release => simp only [envStep, releaseStep]; split <;> dsimp only <;> omega

theorem tick_level_toNat (s : State) : ((tick s).env.level.toNat : Int) = (envOf s).level := by
  by_cases idle : s.voice.stage = .idle
  · rw [tick_idle idle, tickFree_env, envOf, idle]; rfl
  · have level := s.env.level.isLt
    obtain ⟨lo, hi⟩ := envStep_level_fits s.envCtl s.voice.stage (level := s.env.level.toNat) s.env.elapsed.toNat
      (by omega) (by omega)
    rw [tick_active idle]
    exact toNat_ofInt_of_range lo hi

theorem tick_elapsed_toNat (s : State) : ((tick s).env.elapsed.toNat : Int) = (envOf s).elapsed := by
  by_cases idle : s.voice.stage = .idle
  · rw [tick_idle idle, tickFree_env, envOf, idle]; rfl
  · have elapsed := s.env.elapsed.isLt
    obtain ⟨lo, hi⟩ := envStep_elapsed_range s.envCtl s.voice.stage s.env.level.toNat (elapsed := s.env.elapsed.toNat)
      (by omega) (by omega)
    rw [tick_active idle]
    exact toNat_ofInt_of_range lo hi

/-- The registers of the envelope in `t`: level, stage, elapsed time, and IRQ_PEND.IDLE. -/
structure EnvelopeAt (level : Nat) (stage : Stage) (elapsed : Nat) (pend : Bool) (t : State) : Prop where
  level : t.env.level.toNat = level
  stage : t.voice.stage = stage
  elapsed : t.env.elapsed.toNat = elapsed
  pend : t.irqPend = pend

theorem EnvelopeAt.env_eq_zero {stage : Stage} {pend : Bool} {t : State} (h : EnvelopeAt 0 stage 0 pend t) :
    t.env = { level := 0#25, elapsed := 0#32 } := by
  rw [← BitVec.eq_of_toNat_eq (y := 0#25) h.level, ← BitVec.eq_of_toNat_eq (y := 0#32) h.elapsed]

/-- `inc(elapsed)` of R171, over the register of `s`. -/
abbrev incOf (s : State) : Nat := min (s.env.elapsed.toNat + 1) (2 ^ 32 - 1)

theorem incElapsed_toNat (s : State) : incElapsed s.env.elapsed.toNat = incOf s := by unfold incElapsed incOf; omega

/-- What the step computes is what a TICK leaves. -/
theorem tick_envelopeAt {s : State} {level elapsed : Nat} {stage : Stage} {ended : Bool}
    (h : envOf s = ⟨stage, level, elapsed, ended⟩) : EnvelopeAt level stage elapsed (s.irqPend || ended) (tick s) where
  level := by have := tick_level_toNat s; rw [h] at this; exact Int.ofNat_inj.1 this
  stage := by rw [tick_stage, h]
  elapsed := by have := tick_elapsed_toNat s; rw [h] at this; exact Int.ofNat_inj.1 this
  pend := by rw [tick_irqPend, h]

/-- A step that ends no release keeps IRQ_PEND. -/
theorem tick_envelopeAt_of_not_ended {s : State} {level elapsed : Nat} {stage : Stage}
    (h : envOf s = ⟨stage, level, elapsed, false⟩) : EnvelopeAt level stage elapsed s.irqPend (tick s) :=
  Bool.or_false s.irqPend ▸ tick_envelopeAt h

section
variable {s : State}

theorem tick_attack_ends (h : s.voice.stage = .attack) (top : 2 ^ 23 ≤ s.env.level.toNat + s.envCtl.att.toNat) :
    EnvelopeAt (2 ^ 23) .decay 0 s.irqPend (tick s) :=
  tick_envelopeAt_of_not_ended (by rw [envOf, h, envStep, attackStep, if_pos (by omega)]; rfl)

theorem tick_attack_continues (h : s.voice.stage = .attack) (below : ¬2 ^ 23 ≤ s.env.level.toNat + s.envCtl.att.toNat) :
    EnvelopeAt (s.env.level.toNat + s.envCtl.att.toNat) .attack (incOf s) s.irqPend (tick s) :=
  tick_envelopeAt_of_not_ended (by rw [envOf, h, envStep, attackStep, if_neg (by omega), incElapsed_toNat]; rfl)

theorem tick_decay_ends (h : s.voice.stage = .decay)
    (low : (s.env.level.toNat : Int) - s.envCtl.dec.toNat ≤ s.envCtl.sus.toNat) :
    EnvelopeAt s.envCtl.sus.toNat .sustain 0 s.irqPend (tick s) :=
  tick_envelopeAt_of_not_ended (by rw [envOf, h, envStep, decayStep, if_pos low]; rfl)

theorem tick_decay_continues (h : s.voice.stage = .decay)
    (above : ¬(s.env.level.toNat : Int) - s.envCtl.dec.toNat ≤ s.envCtl.sus.toNat) :
    EnvelopeAt (s.env.level.toNat - s.envCtl.dec.toNat) .decay (incOf s) s.irqPend (tick s) :=
  tick_envelopeAt_of_not_ended (by
    rw [envOf, h, envStep, decayStep, if_neg above, incElapsed_toNat, Int.ofNat_sub (by omega)])

theorem tick_sustain (h : s.voice.stage = .sustain) :
    EnvelopeAt s.envCtl.sus.toNat .sustain (incOf s) s.irqPend (tick s) :=
  tick_envelopeAt_of_not_ended (by rw [envOf, h, envStep, sustainStep, incElapsed_toNat])

theorem tick_release_ends (h : s.voice.stage = .release)
    (low : s.env.level.toNat ≤ s.envCtl.rel.toNat ∨ s.env.level.toNat ≤ s.envCtl.floor.toNat) :
    EnvelopeAt 0 .idle 0 true (tick s) :=
  Bool.or_true s.irqPend ▸ tick_envelopeAt (by rw [envOf, h, envStep, releaseStep, if_pos (by omega)]; rfl)

theorem tick_release_continues (h : s.voice.stage = .release)
    (above : ¬(s.env.level.toNat ≤ s.envCtl.rel.toNat ∨ s.env.level.toNat ≤ s.envCtl.floor.toNat)) :
    EnvelopeAt (s.env.level.toNat - s.envCtl.rel.toNat) .release (incOf s) s.irqPend (tick s) :=
  tick_envelopeAt_of_not_ended (by
    rw [envOf, h, envStep, releaseStep, if_neg (by omega), incElapsed_toNat, Int.ofNat_sub (by omega)])

end

/-- Settles O40: each stage's rule, by the branch its test takes. -/
theorem envelopeStepsByStage : Obligations.EnvelopeStepsByStage := by
  intro s t _ ht level inc c
  obtain rfl := eq_tick_of_exec ht
  refine ⟨?idle, ?attack, ?decay, ?sustain, ?release⟩
  case idle =>
    intro h
    have kept := tick_voicePathKept h
    exact ⟨kept.voice, kept.env, kept.irqPend⟩
  case attack =>
    intro h
    split
    case isTrue top => have e := tick_attack_ends h top; exact ⟨e.pend, e.level, e.stage, e.elapsed⟩
    case isFalse below => have e := tick_attack_continues h below; exact ⟨e.pend, e.level, e.stage, e.elapsed⟩
  case decay =>
    intro h
    split
    case isTrue low => have e := tick_decay_ends h low; exact ⟨e.pend, e.level, e.stage, e.elapsed⟩
    case isFalse above => have e := tick_decay_continues h above; exact ⟨e.pend, e.level, e.stage, e.elapsed⟩
  case sustain => intro h; have e := tick_sustain h; exact ⟨e.pend, e.level, e.stage, e.elapsed⟩
  case release =>
    intro h
    split
    case isTrue low => have e := tick_release_ends h low; exact ⟨e.level, e.stage, e.elapsed, e.pend⟩
    case isFalse above => have e := tick_release_continues h above; exact ⟨e.level, e.stage, e.elapsed, e.pend⟩

/-! ## The length of each segment (R173, R174, R176) -/

/-- At `u` the stage `s` is in still goes on, at this level, under the same registers and with nothing pending since. -/
structure StageGoesOn (s : State) (level : Nat) (u : State) : Prop where
  ctl : u.envCtl = s.envCtl
  stage : u.voice.stage = s.voice.stage
  pend : u.irqPend = s.irqPend
  level : u.env.level.toNat = level

theorem StageGoesOn.refl (s : State) : StageGoesOn s s.env.level.toNat s := ⟨rfl, rfl, rfl, rfl⟩

/-- A TICK that changes the level alone. -/
theorem StageGoesOn.next {s u : State} {level level' l' elapsed : Nat} (h : StageGoesOn s level u)
    (e : EnvelopeAt l' s.voice.stage elapsed u.irqPend (tick u)) (hl : l' = level') : StageGoesOn s level' (tick u) where
  ctl := (tick_envCtl u).trans h.ctl
  stage := e.stage
  pend := e.pend.trans h.pend
  level := e.level.trans hl

/-- A segment of `n` TICKs: when each TICK before the n-th takes the level to the next of `level`, and the n-th leaves a
state of which `Last` holds, the stage lasts exactly `n` TICKs. -/
theorem ticks_segment {s : State} {n : Nat} {level : Nat → Nat} {Last : State → Prop} (pos : 0 < n)
    (start : s.env.level.toNat = level 0)
    (goesOn : ∀ k u, k + 1 < n → StageGoesOn s (level k) u → StageGoesOn s (level (k + 1)) (tick u))
    (ends : ∀ k u, k + 1 = n → StageGoesOn s (level k) u → Last (tick u)) :
    (∀ k < n, ∃ t, ticks k s = .next t ∧ StageGoesOn s (level k) t) ∧ ∃ t, ticks n s = .next t ∧ Last t := by
  have during : ∀ k < n, ∃ t, ticks k s = .next t ∧ StageGoesOn s (level k) t := by
    intro k
    induction k with
    | zero => exact fun _ => ⟨s, rfl, start ▸ .refl s⟩
    | succ k ih =>
      intro hk
      obtain ⟨u, hu, on⟩ := ih (by omega)
      exact ⟨tick u, ticks_succ_last hu, goesOn k u hk on⟩
  obtain ⟨m, rfl⟩ : ∃ m, n = m + 1 := ⟨n - 1, by omega⟩
  obtain ⟨u, hu, on⟩ := during m (by omega)
  exact ⟨during, tick u, ticks_succ_last hu, ends m u rfl on⟩

/-- `k < ceil(a / b)`, the rounded quotient as the rules of the segments write it. -/
theorem lt_ceil_div_iff {a b k : Nat} (hb : 0 < b) : k < (a + b - 1) / b ↔ k * b < a := by
  rw [← Nat.ceilDiv_eq_add_pred_div, Nat.mul_comm k b]
  exact lt_iff_lt_of_le_iff_le (ceilDiv_le_iff_le_mul hb)

/-- Settles O41: after k TICKs the level is `k * att`, which is below 2^23 exactly for k below the count. -/
theorem attackTakesItsTicks : Obligations.AttackTakesItsTicks := by
  intro s hs attack zero n
  have att := hs.att.1
  have count {k : Nat} : k < n ↔ k * s.envCtl.att.toNat < 2 ^ 23 := lt_ceil_div_iff (by omega)
  refine And.imp (fun during k hk => (during k hk).imp fun t ⟨ht, on⟩ => ⟨ht, on.stage.trans attack, on.level⟩)
    (Exists.imp fun t ⟨ht, ended⟩ => ⟨ht, ended.stage, ended.level, BitVec.eq_of_toNat_eq ended.elapsed⟩)
    (ticks_segment (level := (· * s.envCtl.att.toNat)) (Last := EnvelopeAt (2 ^ 23) .decay 0 s.irqPend)
      (count.2 (by omega)) (by rw [zero, Nat.zero_mul]; rfl) ?goesOn ?ends)
  case goesOn =>
    intro k u hk on
    have below := count.1 hk
    rw [Nat.succ_mul] at below
    have next := tick_attack_continues (on.stage.trans attack) (by rw [on.level, on.ctl]; omega)
    exact on.next (attack ▸ next) (by rw [on.level, on.ctl, Nat.succ_mul])
  case ends =>
    intro k u hk on
    have top := mt count.2 hk.not_lt
    rw [Nat.succ_mul] at top
    exact on.pend ▸ tick_attack_ends (on.stage.trans attack) (by rw [on.level, on.ctl]; omega)

/-- Settles O42: after k TICKs the level is `2^23 - k * dec`, and the next TICK goes on exactly while it leaves that above
`sus`. -/
theorem decayTakesItsTicks : Obligations.DecayTakesItsTicks := by
  intro s hs decay top n
  have dec := hs.dec.1
  have count {k : Nat} : k + 1 < n ↔ k * s.envCtl.dec.toNat + s.envCtl.dec.toNat < 2 ^ 23 - s.envCtl.sus.toNat := by
    rw [← Nat.succ_mul, ← lt_ceil_div_iff (by omega)]; omega
  refine And.imp (fun during k hk => (during k hk).imp fun t ⟨ht, on⟩ => ⟨ht, on.stage.trans decay, on.level⟩)
    (Exists.imp fun t ⟨ht, ended⟩ => ⟨ht, ended.stage, ended.level, BitVec.eq_of_toNat_eq ended.elapsed⟩)
    (ticks_segment (level := (2 ^ 23 - · * s.envCtl.dec.toNat))
      (Last := EnvelopeAt s.envCtl.sus.toNat .sustain 0 s.irqPend) (Nat.lt_of_lt_of_le Nat.one_pos (le_max_left _ _))
      (by rw [top, Nat.zero_mul, Nat.sub_zero]) ?goesOn ?ends)
  case goesOn =>
    intro k u hk on
    have above := count.1 hk
    have next := tick_decay_continues (on.stage.trans decay) (by rw [on.level, on.ctl]; omega)
    exact on.next (decay ▸ next) (by rw [on.level, on.ctl, Nat.succ_mul]; omega)
  case ends =>
    intro k u hk on
    have low := mt count.2 hk.not_lt
    have sus := hs.sus.2
    rw [← on.ctl, ← on.pend]
    exact tick_decay_ends (on.stage.trans decay) (by rw [on.level, on.ctl]; omega)

/-- Settles O43: after k TICKs the level is `L0 - k * rel`, and the next TICK goes on exactly while that is above
`max(rel, floor)`. -/
theorem releaseTakesItsTicks : Obligations.ReleaseTakesItsTicks := by
  intro s hs release m n
  have rel := hs.rel.1
  have count {k : Nat} : k + 1 < n ↔ k * s.envCtl.rel.toNat < s.env.level.toNat - m := by
    rw [← lt_ceil_div_iff (by omega), Nat.add_comm k]; exact Nat.add_lt_add_iff_left
  refine And.imp (fun during k hk => (during k hk).imp fun t ⟨ht, on⟩ => ⟨ht, on.stage.trans release, on.pend⟩)
    (Exists.imp fun t ⟨ht, ended⟩ => ⟨ht, ended.stage, ended.env_eq_zero, ended.pend⟩)
    (ticks_segment (level := (s.env.level.toNat - · * s.envCtl.rel.toNat)) (Last := EnvelopeAt 0 .idle 0 true)
      (Nat.add_pos_left Nat.one_pos _) (by rw [Nat.zero_mul, Nat.sub_zero]) ?goesOn ?ends)
  case goesOn =>
    intro k u hk on
    have above := count.1 hk
    have next := tick_release_continues (on.stage.trans release) (by rw [on.level, on.ctl]; omega)
    exact on.next (release ▸ next) (by rw [on.level, on.ctl, Nat.succ_mul]; omega)
  case ends =>
    intro k u hk on
    have low := mt count.2 hk.not_lt
    exact tick_release_ends (on.stage.trans release) (by rw [on.level, on.ctl]; omega)

/-! ## The amplitude path (R177) -/

/-- The sample of an active TICK, over the filter output the history keeps. -/
theorem sampleOf_eq_amp_y1 {s : State} (active : s.voice.stage ≠ .idle) :
    sampleOf s = amp (tick s).hist.y1.toInt s.env.level.toNat
      (gainEff (curOf .gain (tick s)) (curOf .depthAmp (tick s)) (tickLv s)) s.voice.vel.toNat := by
  rw [sampleOf_eq, tick_hist_y1_active active]

/-- OUT holds the sample of an active TICK without truncation. -/
theorem tick_out_active_toInt {s : State} (hs : s.Legal) (active : s.voice.stage ≠ .idle) :
    (tick s).out.toInt = sampleOf s := by
  have y := s24_range (tick s).hist.y1
  have g := gainEff_range (curOf .gain (tick s)) (curOf .depthAmp (tick s)) (tickLv s)
  have vel := s.voice.vel.isLt
  have fits := amp_range (vel := s.voice.vel.toNat) y.1 y.2 hs.level.1 hs.level.2 g.1 g.2 (by omega)
  rw [← sampleOf_eq_amp_y1 active] at fits
  rw [tick_active active]
  exact s24_toInt fits.1 fits.2

theorem gainEff_eq_max_min (gain depth lv : Int) :
    gainEff gain depth lv = max 0 (min (gain + lv * depth / 2 ^ 23) (2 ^ 23)) := clamp_eq_max_min (by norm_num)

/-- Settles O44: OUT holds the sample exactly, and a factor 0 makes it 0. -/
theorem amplitudePathIsExact : Obligations.AmplitudePathIsExact := by
  intro s t hs active ht lv level g
  obtain rfl := eq_tick_of_exec ht
  have gain : gainEff (curOf .gain (tick s)) (curOf .depthAmp (tick s)) (tickLv s) = g := gainEff_eq_max_min _ _ _
  have stored : (tick s).out.toInt = amp (tick s).hist.y1.toInt level g s.voice.vel.toNat := by
    rw [tick_out_active_toInt hs active, sampleOf_eq_amp_y1 active, gain]
  refine ⟨stored, fun silent => BitVec.eq_of_toInt_eq (stored.trans ?_)⟩
  rcases silent with level0 | gain0
  · rw [level0]; exact amp_level_zero _ _ _
  · rw [gain0]; exact amp_gain_zero _ _ _

/-! ## Leaving and entering IDLE (R172, R178) -/

theorem Effect.noteOn_of_leaves_idle {s t : State} {i : Instr} (h : Effect s i t) (idle : s.voice.stage = .idle)
    (left : t.voice.stage ≠ .idle) : ∃ x n x7 v, i = .noteOn x n x7 v := by
  cases h
  case noteOn x note x7 vel => exact ⟨x, note, x7, vel, rfl⟩
  case noteOff x note y rel => simp [releases_iff, idle] at rel
  case tick => exact absurd ((congrArg Voice.stage (tick_voicePathKept idle).voice).trans idle) left
  case voiceReset | reset => exact absurd rfl left
  all_goals exact absurd idle left

theorem Effect.cause_of_enters_idle {s t : State} {i : Instr} (h : Effect s i t) (active : s.voice.stage ≠ .idle)
    (entered : t.voice.stage = .idle) :
    (∃ x, i = .voiceReset x) ∨ i = .reset ∨ (i = .tick ∧ s.voice.stage = .release) := by
  cases h
  case voiceReset x => exact .inl ⟨x, rfl⟩
  case reset => exact .inr (.inl rfl)
  case tick =>
    obtain ⟨-, -, -, release⟩ := envStep_idle active ((tick_stage s).symm.trans entered)
    exact .inr (.inr ⟨rfl, release⟩)
  case noteOn | noteOff => cases entered
  all_goals exact absurd entered active

/-- Settles O55: some operation of the sequence is the one that leaves IDLE. -/
theorem onlyNoteOnLeavesIdle : Obligations.OnlyNoteOnLeavesIdle := by
  refine ⟨fun is => ?leaves, fun i s t active h entered => (effect_of_exec h).cause_of_enters_idle active entered⟩
  case leaves =>
    induction is with
    | nil => intro s t idle h left; cases h; exact absurd idle left
    | cons i is ih =>
      intro s t idle h left
      obtain ⟨u, hu, hr⟩ := execAll_cons_next h
      by_cases still : u.voice.stage = .idle
      · obtain ⟨x, n, x7, v, mem⟩ := ih u t still hr left
        exact ⟨x, n, x7, v, .tail i mem⟩
      · obtain ⟨x, n, x7, v, rfl⟩ := (effect_of_exec hu).noteOn_of_leaves_idle idle still
        exact ⟨x, n, x7, v, .head is⟩

/-- The stages of a note that is held: those a NOTE_OFF would release (R135). -/
def Stage.Held (g : Stage) : Prop := g = .attack ∨ g = .decay ∨ g = .sustain

/-- The transitions a TICK makes by itself stay within the held stages (R171). -/
theorem envStep_held {c : EnvCtrl} {g : Stage} (level elapsed : Int) (h : g.Held) :
    (envStep c g level elapsed).stage.Held := by
  rcases h with rfl | rfl | rfl
  · rw [envStep, attackStep]; split
    · exact .inr (.inl rfl)
    · exact .inl rfl
  · rw [envStep, decayStep]; split
    · exact .inr (.inr rfl)
    · exact .inr (.inl rfl)
  · exact .inr (.inr rfl)

theorem ticks_held {n : Nat} {s t : State} (h : s.voice.stage.Held) (ht : ticks n s = .next t) :
    t.voice.stage.Held ∧ t.voice.note = s.voice.note ∧ t.voice.vel = s.voice.vel := by
  induction n generalizing s with
  | zero => cases ht; exact ⟨h, rfl, rfl⟩
  | succ n ih =>
    have held : (tick s).voice.stage.Held := tick_stage s ▸ envStep_held _ _ h
    rw [← tick_note s, ← tick_vel s]
    exact ih held ht

/-- Settles O56: NOTE_ON enters ATTACK with its note and velocity, and TICKs keep a held note. -/
theorem sustainsUntilReleased : Obligations.SustainsUntilReleased := by
  intro n x note x7 vel s
  have start := exec_noteOn x note x7 vel s
  obtain ⟨t, ht⟩ := execAll_completes (.noteOn x note x7 vel :: List.replicate n .tick) s
  exact ⟨t, ht, ticks_held (.inl rfl) ((execAll_cons _ start).symm.trans ht)⟩

end Sys2Proof.Machine
end

section
/-! SUPPORT. The interrupt (spec/60_exceptions.md R181): what sets and what clears IRQ_PEND.IDLE. -/

namespace Sys2Proof.Machine

/-- The operation is the TICK that ends a release (R176). -/
def EndsRelease (s : State) (i : Instr) : Prop :=
  i = .tick ∧ s.voice.stage = .release ∧
    (s.env.level.toNat ≤ s.envCtl.rel.toNat ∨ s.env.level.toNat ≤ s.envCtl.floor.toNat)

/-- The operations that clear IRQ_PEND.IDLE: RESET, and a WRITE of 1 to it (R80, R181). -/
def ClearsPending (i : Instr) : Prop := i = .reset ∨ ∃ d : Word, i = .wrIrqPend d ∧ d.toNat % 2 = 1

theorem not_clearsPending_tick : ¬ClearsPending .tick := by simp [ClearsPending]

theorem EndsRelease.not_clearsPending {s : State} {i : Instr} (h : EndsRelease s i) : ¬ClearsPending i :=
  h.1 ▸ not_clearsPending_tick

theorem envOf_ended_iff (s : State) : (envOf s).ended = true ↔ EndsRelease s .tick := by
  rw [envStep_ended_iff, EndsRelease, Int.ofNat_le, Int.ofNat_le, eq_self, true_and]

theorem not_clearsPending_wrIrqPend (d : Word) : ¬ClearsPending (.wrIrqPend d) ↔ (!d.getLsbD 0) = true := by
  rw [not_getLsbD_zero, decide_eq_true_iff]
  simp [ClearsPending]

/-- A READ, another WRITE and every command but TICK and RESET keep the pending bit. -/
theorem Effect.irqPend_kept {s t : State} {i : Instr} (h : Effect s i t) (notTick : i ≠ .tick) (notReset : i ≠ .reset)
    (notWrite : ∀ d, i ≠ .wrIrqPend d) : t.irqPend = s.irqPend := by
  cases h
  case tick => exact absurd rfl notTick
  case reset => exact absurd rfl notReset
  case wrIrqPend d => exact absurd rfl (notWrite d)
  all_goals rfl

/-- The pending bit after any operation: set by the end of a release, else what it was unless it is cleared. -/
theorem irqPend_iff_of_exec {i : Instr} {s t : State} (h : exec i s = .next t) :
    t.irqPend = true ↔ EndsRelease s i ∨ s.irqPend = true ∧ ¬ClearsPending i := by
  by_cases isTick : i = .tick
  · subst isTick
    rw [eq_tick_of_exec h, tick_irqPend, Bool.or_eq_true, envOf_ended_iff, or_comm, and_iff_left not_clearsPending_tick]
  have noEnd : ¬EndsRelease s i := fun ends => isTick ends.1
  rw [or_iff_right noEnd]
  by_cases isReset : i = .reset
  · subst isReset
    cases h
    exact iff_of_false Bool.false_ne_true fun kept => kept.2 (.inl rfl)
  by_cases isWrite : ∃ d, i = .wrIrqPend d
  · obtain ⟨d, rfl⟩ := isWrite
    cases h
    rw [not_clearsPending_wrIrqPend]
    exact Bool.and_eq_true_iff
  · have notCleared : ¬ClearsPending i := by
      rintro (reset | ⟨d, write, -⟩)
      · exact isReset reset
      · exact isWrite ⟨d, write⟩
    rw [(effect_of_exec h).irqPend_kept isTick isReset (not_exists.1 isWrite), and_iff_left notCleared]

/-- Settles O54: both halves are the rule above with the pending bit of `s` known; the line is R181's by definition. -/
theorem pendingBitSetAndClearedOnlyAsListed : Obligations.PendingBitSetAndClearedOnlyAsListed := by
  intro i s t h
  have rule := irqPend_iff_of_exec h
  refine ⟨fun clear => ?sets, fun set => ?clears, rfl⟩
  case sets => exact rule.trans (or_iff_left fun kept => Bool.eq_false_iff.1 clear kept.1)
  case clears =>
    have stays : t.irqPend = true ↔ ¬ClearsPending i := by
      rw [rule, and_iff_right set, or_iff_right_of_imp EndsRelease.not_clearsPending]
    exact Bool.eq_false_iff.trans ((not_congr stays).trans not_not)

end Sys2Proof.Machine
end

section
/-! SUPPORT. RESET (spec/70_reset_and_hazards.md R193): the parameter slots hold the defaults of R123. -/

namespace Sys2Proof.Machine

theorem slotRow_default_in_range (i : Slot) :
    (slotRow i).lo ≤ (slotRow i).default ∧ (slotRow i).default ≤ (slotRow i).hi := by cases i <;> decide

@[simp] theorem reset_slots_get (i : Slot) : State.reset.slots.get i = .reset i := by cases i <;> rfl

/-- The word RESET stores as TARGET and CURRENT reads back as the slot's default. -/
theorem slotValue_default (i : Slot) : slotValue i (u32 (slotRow i).default) = (slotRow i).default :=
  slotValue_u32 (slotRow_default_in_range i).1 (slotRow_default_in_range i).2

/-- The slots after RESET (the last two rows of R193). -/
theorem reset_slot_values (i : Slot) :
    slotValue i (State.reset.slots.get i).tgt = (slotRow i).default ∧
    slotValue i (State.reset.slots.get i).cur = (slotRow i).default ∧
    (State.reset.slots.get i).shift = 5#5 ∧ (State.reset.slots.get i).maxstep = 0#24 := by
  rw [reset_slots_get]
  exact ⟨slotValue_default i, slotValue_default i, rfl, rfl⟩

/-- Settles O28: the slots by the lemma above; every other row is the value `State.reset` is defined with. -/
theorem resetValuesOfEveryElement : Obligations.ResetValuesOfEveryElement := by
  intro s
  refine ⟨_, exec_reset s, ?voice, ?flags, ?irqEn, ?irqPend, ?oscCtl, ?mode, ?lfo, ?a4Ftw, ?ftwMin, ?att, ?dec, ?sus, ?rel,
    ?floor, ?counters, ?out, ?env, ?osc, ?ftw, ?coef, ?hist, ?slots, ?literals⟩
  case slots => exact reset_slot_values
  all_goals rfl

end Sys2Proof.Machine
end

section
/-! SUPPORT. The decoder against the encoder (spec/30_encoding.md R61 to R66), and runs of transactions (spec/20_memory.md
R56, spec/60_exceptions.md R179). -/

namespace Sys2Proof.Machine

/-! ## The decoder inverts the encoder (R61 to R66) -/

/-- The word a well-formed instruction is encoded as decodes to it. -/
theorem decode_encode {i : Instr} (h : i.wf = true) : decode (encode i) = .ok i := by
  cases i
  case tick => exact decode_tickWord
  case reset => exact decode_resetWord
  case rdBad a => exact Laws.RoundTrip.rdBad a h
  case wrBad a d => exact Laws.RoundTrip.wrBad a d h
  case nop x => exact Laws.RoundTrip.nop x h
  case noteOn x note x7 vel => exact Laws.RoundTrip.noteOn x note x7 vel h
  case noteOff x note xlow => exact Laws.RoundTrip.noteOff x note xlow h
  case voiceReset x => exact Laws.RoundTrip.voiceReset x h
  case cmdReserved04To07 op x => exact Laws.RoundTrip.cmdReserved04To07 op x h
  case cmdReserved08To0F op x => exact Laws.RoundTrip.cmdReserved08To0F op x h
  case cmdReserved10To1F op x => exact Laws.RoundTrip.cmdReserved10To1F op x h
  case cmdReserved20To3F op x => exact Laws.RoundTrip.cmdReserved20To3F op x h
  case cmdReserved40To7F op x => exact Laws.RoundTrip.cmdReserved40To7F op x h
  case cmdReserved80ToFF op x => exact Laws.RoundTrip.cmdReserved80ToFF op x h
  case wrFlags d | wrIrqEn d | wrIrqPend d | wrOscCtrl d | wrFiltCtrl d | wrLfoCtrl d | wrA4Ftw d | wrFtwMin d
      | wrEnvAttack d | wrEnvDecay d | wrEnvSustain d | wrEnvRelease d | wrEnvFloor d
      | wrTargetBend d | wrTargetDetune d | wrTargetMix d | wrTargetCutoff d | wrTargetRes d | wrTargetGain d
      | wrTargetLfoRate d | wrTargetDepthPitch d | wrTargetDepthCut d | wrTargetDepthAmp d
      | wrSmcfgBend d | wrSmcfgDetune d | wrSmcfgMix d | wrSmcfgCutoff d | wrSmcfgRes d | wrSmcfgGain d
      | wrSmcfgLfoRate d | wrSmcfgDepthPitch d | wrSmcfgDepthCut d | wrSmcfgDepthAmp d => exact decode_writeWord _ d
  all_goals exact decode_readWord _

/-- What the decoder answers for a READ, address by address. -/
theorem decodeRead_wf_encode : ∀ a : Addr, (decodeRead a).wf = true ∧ encode (decodeRead a) = readWord a := by
  decide +kernel

theorem mem_of_rowFor {α : Type} {rows : List (Nat × α)} {a : Nat} {r : α} (h : rowFor rows a = some r) :
    (a, r) ∈ rows := by
  induction rows with
  | nil => cases h
  | cons row rows ih =>
    rw [rowFor] at h
    split at h
    · cases h; subst a; exact .head _
    · exact .tail _ (ih h)

theorem writeRows_wf_encode :
    ∀ row ∈ writeRows, ∀ d, (row.2 d).wf = true ∧ encode (row.2 d) = writeWord (BitVec.ofNat 9 row.1) d := by
  simp [writeRows, Instr.wf, encode]

/-- An address of no row but CMD's is that of no writable register. -/
theorem writable_eq_false_of_no_row : ∀ a : Addr, a ≠ 0x004#9 → (rowFor writeRows a.toNat).isNone = true →
    a.writable = false := by decide +kernel

/-- The fields of a NOTE_ON word make up its DATA[23:0] (R63). -/
theorem noteOn_fields (d : Word) :
    d.extractLsb' 15 9 ++ d.extractLsb' 8 7 ++ d.extractLsb' 7 1 ++ d.extractLsb' 0 7 = d.extractLsb' 0 24 := by
  apply BitVec.eq_of_toNat_eq
  simp only [toNat_append_eq_add, toNat_extractLsb'_eq_div_mod]
  omega

/-- The fields of a NOTE_OFF word make up its DATA[23:0] (R63). -/
theorem noteOff_fields (d : Word) :
    d.extractLsb' 15 9 ++ d.extractLsb' 8 7 ++ d.extractLsb' 0 8 = d.extractLsb' 0 24 := by
  apply BitVec.eq_of_toNat_eq
  simp only [toNat_append_eq_add, toNat_extractLsb'_eq_div_mod]
  omega

/-- The word of a WRITE of CMD, from the opcode and the rest of its DATA. -/
theorem commandWord_eq_writeWord {op : BitVec 8} {x : BitVec 24} {d : Word} (hop : d.extractLsb' 24 8 = op)
    (hx : x = d.extractLsb' 0 24) : commandWord op x = writeWord 0x004#9 d := by
  rw [commandWord, hx, ← hop, command_split]

/-- What the decoder answers for a WRITE of CMD. -/
theorem decodeCommand_wf_encode (d : Word) :
    (decodeCommand d).wf = true ∧ encode (decodeCommand d) = writeWord 0x004#9 d := by
  have opcode := (d.extractLsb' 24 8).isLt
  have reserved {lo hi : Nat} (h0 : lo ≤ (d.extractLsb' 24 8).toNat) (h1 : (d.extractLsb' 24 8).toNat ≤ hi) :
      opIn lo hi (d.extractLsb' 24 8) = true := opIn_iff.2 ⟨h0, h1⟩
  have rest : commandWord (d.extractLsb' 24 8) (d.extractLsb' 0 24) = writeWord 0x004#9 d :=
    commandWord_eq_writeWord rfl rfl
  simp only [decodeCommand]
  split_ifs with nop noteOn noteOff voiceReset r04 r08 r10 r20 r40
  · exact ⟨rfl, commandWord_eq_writeWord nop rfl⟩
  · exact ⟨rfl, commandWord_eq_writeWord noteOn (noteOn_fields d)⟩
  · exact ⟨rfl, commandWord_eq_writeWord noteOff (noteOff_fields d)⟩
  · exact ⟨rfl, commandWord_eq_writeWord voiceReset rfl⟩
  · refine ⟨reserved ?_ r04, rest⟩
    simp only [BitVec.toNat_eq, BitVec.toNat_ofNat] at nop noteOn noteOff voiceReset
    omega
  · exact ⟨reserved (by omega) r08, rest⟩
  · exact ⟨reserved (by omega) r10, rest⟩
  · exact ⟨reserved (by omega) r20, rest⟩
  · exact ⟨reserved (by omega) r40, rest⟩
  · exact ⟨reserved (by omega) (by omega), rest⟩

/-- What the decoder answers for a WRITE: a command, the row of the address, or a bad WRITE. -/
theorem decodeWrite_wf_encode (a : Addr) (d : Word) :
    (decodeWrite a d).wf = true ∧ encode (decodeWrite a d) = writeWord a d := by
  by_cases cmd : a = 0x004#9
  · subst cmd
    rw [decodeWrite_cmd]
    exact decodeCommand_wf_encode d
  · rw [decodeWrite, if_neg cmd]
    split
    next row h =>
      have spec := writeRows_wf_encode _ (mem_of_rowFor h) d
      rwa [BitVec.ofNat_toNat, BitVec.setWidth_eq] at spec
    next h =>
      have bad := writable_eq_false_of_no_row a cmd (by rw [h]; rfl)
      exact ⟨by rw [Instr.wf, bad]; rfl, rfl⟩

/-- The four kinds of transaction word (R62). -/
theorem decode_ok_cases {t : TWord} {i : Instr} (h : decode t = .ok i) :
    (t = readWord (addrOf t) ∧ i = decodeRead (addrOf t)) ∨
    (t = writeWord (addrOf t) (dataOf t) ∧ i = decodeWrite (addrOf t) (dataOf t)) ∨
    (t = mkWord 2#2 0#9 0#32 ∧ i = .tick) ∨ (t = mkWord 3#2 0#9 0#32 ∧ i = .reset) := by
  have last : ∀ k : BitVec 2, k ≠ 0#2 → k ≠ 1#2 → k ≠ 2#2 → k = 3#2 := by decide
  unfold decode at h
  split_ifs at h with rsv read unused write addr data tick
  all_goals cases h
  all_goals have word := mkWord_fields (not_not.1 rsv)
  · exact .inl ⟨by rw [readWord, ← read, ← not_not.1 unused, word], rfl⟩
  · exact .inr (.inl ⟨by rw [writeWord, ← write, word], rfl⟩)
  · exact .inr (.inr (.inl ⟨by rw [← tick, ← not_not.1 addr, ← not_not.1 data, word], rfl⟩))
  · exact .inr (.inr (.inr ⟨by rw [← last _ read write tick, ← not_not.1 addr, ← not_not.1 data, word], rfl⟩))

/-- Settles O1: one direction word kind by word kind, the other constructor by constructor. -/
theorem decoderInvertsEncoder : Obligations.DecoderInvertsEncoder := by
  refine fun t i => ⟨fun h => ?decoded, fun ⟨wf, word⟩ => word ▸ decode_encode wf⟩
  case decoded =>
    rcases decode_ok_cases h with ⟨ht, rfl⟩ | ⟨ht, rfl⟩ | ⟨ht, rfl⟩ | ⟨ht, rfl⟩
    · exact ⟨(decodeRead_wf_encode _).1, (decodeRead_wf_encode _).2.trans ht.symm⟩
    · exact ⟨(decodeWrite_wf_encode _ _).1, (decodeWrite_wf_encode _ _).2.trans ht.symm⟩
    · exact ⟨rfl, ht.symm⟩
    · exact ⟨rfl, ht.symm⟩

/-- Settles O3: the decoder runs on each of the words. -/
theorem specWordsDecodeToTheirOperations : Obligations.SpecWordsDecodeToTheirOperations := by
  unfold Obligations.SpecWordsDecodeToTheirOperations
  decide

/-! ## Runs of transactions (R56, R179, R191) -/

/-- Settles O8: every operation has an effect, and none of them issues anything. -/
theorem everyOperationCompletes : Obligations.EveryOperationCompletes := fun i s =>
  (exec_effect i s).imp fun _ ⟨h, effect⟩ => ⟨h, effect.ops⟩

theorem step_of_no_operation {s : State} (h : s.ops = []) : step s = .next s := by rw [step, nextOperation, h]

theorem decode_tableWord {nbits w : Nat} {i : Instr} (h : decodeTableWord nbits w = some i) :
    decode (tableWord nbits w) = .ok i := by
  unfold decodeTableWord at h
  split at h
  · split at h <;> cases h
    assumption
  · cases h

/-- Settles O6: the step on the first word of the order; a word issued first is that word. -/
theorem stepPerformsTheNextOperation : Obligations.StepPerformsTheNextOperation :=
  ⟨fun _ _ _ _ => step_cons, fun _ _ _ _ h => step_cons rfl (decode_tableWord h), fun _ => step_of_no_operation⟩

/-- The operations that words which are all transactions stand for. -/
theorem exists_decoded {words : List TWord} (h : ∀ t ∈ words, ∃ i, decode t = .ok i) :
    ∃ is : List Instr, words.map decode = is.map Decoded.ok := by
  induction words with
  | nil => exact ⟨[], rfl⟩
  | cons t words ih =>
    obtain ⟨i, hi⟩ := h t (.head _)
    obtain ⟨is, his⟩ := ih fun u hu => h u (.tail _ hu)
    exact ⟨i :: is, by rw [List.map_cons, List.map_cons, hi, his]⟩

/-- A run over words that decode to `is` is the fold of exec over `is`. -/
theorem run_eq_performAll {s : State} {is : List Instr} (h : s.ops.map decode = is.map Decoded.ok) (k : Nat) :
    ∃ t : State, Sys2Proof.core.run k s = .next t ∧ t.ops = s.ops.drop k ∧
      performAll (is.take k) (s.setOps (s.ops.drop k)) = .next t := by
  induction k generalizing s is with
  | zero => exact ⟨s, rfl, rfl, rfl⟩
  | succ k ih =>
    cases ho : s.ops with
    | nil =>
      rw [ho] at h
      obtain rfl := List.map_eq_nil_iff.1 h.symm
      obtain ⟨t, run, ops, fold⟩ := ih (s := s) (is := []) (by rw [ho]; rfl)
      rw [ho, List.drop_nil] at ops fold
      exact ⟨t, (core_run_succ k (step_of_no_operation ho)).trans run, ops, by rwa [List.take_nil] at fold⟩
    | cons w rest =>
      rw [ho] at h
      obtain ⟨i, is, rfl, hi, his⟩ := List.map_eq_cons_iff.1 h.symm
      obtain ⟨u, hu, effect⟩ := exec_effect i (beginOperation rest s)
      have issued : u.ops = rest := effect.ops
      obtain ⟨t, run, ops, fold⟩ := ih (s := u) (is := is) (by rw [issued, his])
      rw [issued] at ops fold
      refine ⟨t, (core_run_succ k ((step_cons ho hi.symm).trans hu)).trans run, ops, ?_⟩
      rw [List.take_succ_cons, List.drop_succ_cons]
      exact (performAll_cons _ (exec_setOps (rest.drop k) hu)).trans fold

/-- Settles O7: by induction on the number of steps. -/
theorem transactionsNeverStop : Obligations.TransactionsNeverStop := fun _ h =>
  (exists_decoded h).imp fun _ decoded => ⟨decoded, run_eq_performAll decoded⟩

end Sys2Proof.Machine
end

section
/-! SUPPORT. The rules of the whole machine: legal states (spec/10_state.md R16), the counters (R38, R39), FLAGS (R25), and
the LFOs of several blocks (spec/60_exceptions.md R188). -/

namespace Sys2Proof.Machine

/-! ## Legal states (R16, R172) -/

theorem reset_slots_legal (i : Slot) : SlotRegs.Legal i (State.reset.slots.get i) := by
  obtain ⟨tgt, cur, -, -⟩ := reset_slot_values i
  have range := slotRow_default_in_range i
  exact ⟨tgt ▸ range, cur ▸ range⟩

/-- Settles O53: the slots hold their defaults, the other elements literals. -/
theorem resetStateIsLegal : Obligations.ResetStateIsLegal where
  slots := reset_slots_legal
  idleLevel := fun _ => rfl
  idleElapsed := fun _ => rfl
  a4Ftw := by decide
  ftwMin := by decide
  att := by decide
  dec := by decide
  sus := by decide
  rel := by decide
  floor := by decide
  lfoValue := by decide
  level := by decide
  ftwA := by decide
  ftwB := by decide

/-- What a WARL write stores in a 32-bit field lies in the field's range. -/
theorem within_u32_clamp {x lo hi : Int} (h : lo ≤ hi) (h0 : 0 ≤ lo) (h1 : hi < 2 ^ 32) :
    within lo (u32 (clamp x lo hi)).toNat hi := by
  rw [toNat_u32_clamp h h0 h1]; exact ⟨le_clamp h, clamp_le h⟩

/-- The same for a 24-bit field. -/
theorem within_u24_clamp {x lo hi : Int} (h : lo ≤ hi) (h0 : 0 ≤ lo) (h1 : hi < 2 ^ 24) :
    within lo ((u32 (clamp x lo hi)).setWidth 24).toNat hi := by
  rw [toNat_u24_clamp h h0 h1]; exact ⟨le_clamp h, clamp_le h⟩

/-- A slot file stays legal when one slot is replaced by a legal one. -/
theorem slots_set_legal {f : SlotFile} (h : ∀ i, SlotRegs.Legal i (f.get i)) {j : Slot} {r : SlotRegs}
    (hr : r.Legal j) (i : Slot) : SlotRegs.Legal i ((f.set j r).get i) := by
  by_cases e : i = j
  · subst e; rw [SlotFile.get_set_self]; exact hr
  · rw [SlotFile.get_set_of_ne _ _ e]; exact h i

/-- An increment of a TICK lies in [FTW_MIN, 2^31 - 1] (R150). -/
theorem u32_p2f_toNat {a4 ftwMin p : Int} (h0 : 0 ≤ ftwMin) (h1 : ftwMin ≤ 2 ^ 31 - 1) :
    ((u32 (p2f a4 ftwMin p)).toNat : Int) = p2f a4 ftwMin p := by
  have range := p2f_range a4 h1 p
  exact u32_toNat (by omega) (by omega)

/-- The increments TICK stores, without truncation (R149). -/
theorem tick_ftw_toNat {s : State} (h : s.Legal) :
    let pA := pitchA s.voice.note.toNat (curOf .bend (tick s)) (curOf .depthPitch (tick s)) (tickLv s)
    ((tick s).ftw.a.toNat : Int) = p2f s.tuning.a4Ftw.toNat s.tuning.ftwMin.toNat pA ∧
    ((tick s).ftw.b.toNat : Int) =
      p2f s.tuning.a4Ftw.toNat s.tuning.ftwMin.toNat (pitchB pA (curOf .detune (tick s))) := by
  have lo : (0 : Int) ≤ s.tuning.ftwMin.toNat := Int.natCast_nonneg _
  rw [tick_ftw_eq]
  exact ⟨u32_p2f_toNat lo h.ftwMin.2, u32_p2f_toNat lo h.ftwMin.2⟩

theorem tick_ftw_range {s : State} (h : s.Legal) :
    within s.tuning.ftwMin.toNat (tick s).ftw.a.toNat (2 ^ 31 - 1) ∧
    within s.tuning.ftwMin.toNat (tick s).ftw.b.toNat (2 ^ 31 - 1) := by
  obtain ⟨a, b⟩ := tick_ftw_toNat h
  rw [a, b]
  exact ⟨p2f_range _ h.ftwMin.2 _, p2f_range _ h.ftwMin.2 _⟩

/-- The level of a legal state after a TICK. -/
theorem tick_level_within {s : State} (h : s.Legal) : within 0 (tick s).env.level.toNat (2 ^ 23) := by
  rw [tick_level_toNat]
  exact envStep_level_range (by have := h.sus.2; omega) _ _ h.level.1 h.level.2

/-- A voice that is IDLE after a TICK was so before, or its release ended; either way level and elapsed are 0. -/
theorem tick_idle_env {s : State} (h : s.Legal) (idle : (tick s).voice.stage = .idle) :
    (tick s).env = { level := 0#25, elapsed := 0#32 } := by
  by_cases was : s.voice.stage = .idle
  · rw [(tick_voicePathKept was).env, ← h.idleLevel was, ← h.idleElapsed was]
  · obtain ⟨level, elapsed, -, -⟩ := envStep_idle was ((tick_stage s).symm.trans idle)
    rw [tick_active was, envOf, level, elapsed]; rfl

theorem tick_legal {s : State} (h : s.Legal) : (tick s).Legal where
  a4Ftw := by rw [tick_tuning]; exact h.a4Ftw
  ftwMin := by rw [tick_tuning]; exact h.ftwMin
  att := by rw [tick_envCtl]; exact h.att
  dec := by rw [tick_envCtl]; exact h.dec
  sus := by rw [tick_envCtl]; exact h.sus
  rel := by rw [tick_envCtl]; exact h.rel
  floor := by rw [tick_envCtl]; exact h.floor
  slots := fun i => by rw [tick_slots_get]; exact smoothSlot_legal (h.slots i)
  lfoValue := by rw [tick_lfo_value_toInt]; exact tickLv_range s
  level := tick_level_within h
  idleLevel := fun idle => congrArg Env.level (tick_idle_env h idle)
  idleElapsed := fun idle => congrArg Env.elapsed (tick_idle_env h idle)
  ftwA := ⟨Int.natCast_nonneg _, (tick_ftw_range h).1.2⟩
  ftwB := ⟨Int.natCast_nonneg _, (tick_ftw_range h).2.2⟩

/-- Every operation keeps a state legal: each is checked on the elements it writes. -/
theorem Effect.legal {s t : State} {i : Instr} (e : Effect s i t) (h : s.Legal) : t.Legal := by
  have tuning (x : Int) := within_u32_clamp (x := x) (lo := 1) (hi := 2 ^ 31 - 1) (by norm_num) (by norm_num)
    (by norm_num)
  have from1 (x : Int) := within_u24_clamp (x := x) (lo := 1) (hi := 2 ^ 23) (by norm_num) (by norm_num) (by norm_num)
  have from0 (x : Int) := within_u24_clamp (x := x) (lo := 0) (hi := 2 ^ 23) (by norm_num) (by norm_num) (by norm_num)
  cases e
  case tick => exact tick_legal h
  case reset => exact { resetStateIsLegal with }
  case wrA4Ftw d v f hv hf => exact { h with a4Ftw := hv ▸ tuning _ }
  case wrFtwMin d v f hv hf => exact { h with ftwMin := hv ▸ tuning _ }
  case wrEnvAttack d v f hv hf => exact { h with att := hv ▸ from1 _ }
  case wrEnvDecay d v f hv hf => exact { h with dec := hv ▸ from1 _ }
  case wrEnvSustain d v f hv hf => exact { h with sus := hv ▸ from0 _ }
  case wrEnvRelease d v f hv hf => exact { h with rel := hv ▸ from1 _ }
  case wrEnvFloor d v f hv hf => exact { h with floor := hv ▸ from0 _ }
  case wrTarget i d v f hv hf =>
    have range := slotRow_lo_le_hi i
    have stored : within (slotRow i).lo (slotValue i v) (slotRow i).hi := by
      rw [hv, slotValue_u32 (le_clamp range) (clamp_le range)]
      exact ⟨le_clamp range, clamp_le range⟩
    exact { h with slots := slots_set_legal h.slots ⟨stored, (h.slots i).2⟩ }
  case wrSmcfg i d => exact { h with slots := slots_set_legal h.slots (h.slots i) }
  case noteOn => exact { h with level := resetStateIsLegal.level, idleLevel := nofun, idleElapsed := nofun }
  case noteOff => exact { h with idleLevel := nofun, idleElapsed := nofun }
  case voiceReset =>
    exact { h with level := resetStateIsLegal.level, idleLevel := fun _ => rfl, idleElapsed := fun _ => rfl }
  all_goals exact { h with }

/-- Settles O52: a step is one operation, begun in a state as legal as the last, or nothing. -/
theorem legalStatesStayLegal : Obligations.LegalStatesStayLegal := by
  intro s t hs ht
  rcases step_next ht with ⟨-, rfl⟩ | ⟨w, rest, i, -, -, h⟩
  · exact hs
  · have begun : (beginOperation rest s).Legal := { hs with }
    exact (effect_of_exec h).legal begun

/-! ## CURRENT and the counters (R38, R39, R185, R186) -/

/-- CURRENT is moved by the smoother and RESET alone. -/
theorem Effect.cur_kept {s t : State} {i : Instr} (h : Effect s i t) (notTick : i ≠ .tick) (notReset : i ≠ .reset)
    (j : Slot) : (t.slots.get j).cur = (s.slots.get j).cur := by
  cases h
  case tick => exact absurd rfl notTick
  case reset => exact absurd rfl notReset
  case wrTarget k d v f hv hf =>
    by_cases e : j = k
    · subst e; rw [SlotFile.get_set_self]
    · rw [SlotFile.get_set_of_ne _ _ e]
  case wrSmcfg k d =>
    by_cases e : j = k
    · subst e; rw [SlotFile.get_set_self]
    · rw [SlotFile.get_set_of_ne _ _ e]
  all_goals rfl

theorem Effect.scount_kept {s t : State} {i : Instr} (h : Effect s i t) (notTick : i ≠ .tick) (notReset : i ≠ .reset) :
    t.counters.scount = s.counters.scount := by
  cases h
  case tick => exact absurd rfl notTick
  case reset => exact absurd rfl notReset
  all_goals rfl

theorem Effect.start_kept {s t : State} {i : Instr} (h : Effect s i t) (notReset : i ≠ .reset)
    (notOn : ∀ x n x7 v, i ≠ .noteOn x n x7 v) : t.counters.start = s.counters.start := by
  cases h
  case tick => rw [tick_counters]
  case reset => exact absurd rfl notReset
  case noteOn x note x7 vel => exact absurd rfl (notOn x note x7 vel)
  all_goals rfl

theorem Effect.shadow_kept {s t : State} {i : Instr} (h : Effect s i t) (notReset : i ≠ .reset)
    (notRead : i ≠ .rdScountLo) : t.counters.shadow = s.counters.shadow := by
  cases h
  case tick => rw [tick_counters]
  case reset => exact absurd rfl notReset
  case scountLo => exact absurd rfl notRead
  all_goals rfl

theorem tick_scount_toNat (s : State) : (tick s).counters.scount.toNat = (s.counters.scount.toNat + 1) % 2 ^ 64 := by
  rw [tick_counters, BitVec.toNat_add]; rfl

/-- Settles O57: each element by the effects that move it. -/
theorem currentAndCountersMoveOnlyAsListed : Obligations.CurrentAndCountersMoveOnlyAsListed := by
  intro i s t h
  have effect := effect_of_exec h
  refine ⟨effect.cur_kept, ?count, effect.scount_kept, effect.start_kept, effect.shadow_kept⟩
  case count =>
    rintro rfl
    rw [eq_tick_of_exec h, tick_scount_toNat]

/-! ## The split read of SCOUNT (R52) -/

theorem execAll_shadow_kept {is : List Instr} {s t : State} (h : execAll is s = .next t)
    (keeps : ∀ i ∈ is, i ≠ .reset ∧ i ≠ .rdScountLo) : t.counters.shadow = s.counters.shadow := by
  induction is generalizing s with
  | nil => cases h; rfl
  | cons i is ih =>
    obtain ⟨u, hu, rest⟩ := execAll_cons_next h
    obtain ⟨notReset, notRead⟩ := keeps i (.head _)
    exact (ih rest fun j hj => keeps j (.tail _ hj)).trans ((effect_of_exec hu).shadow_kept notReset notRead)

/-- The two halves of a 64-bit count. -/
theorem toNat_eq_halves (c : BitVec 64) :
    c.toNat = (c.extractLsb' 32 32).toNat * 2 ^ 32 + (c.extractLsb' 0 32).toNat := by
  simp only [toNat_extractLsb'_eq_div_mod]
  omega

/-- Settles O13: the high half waits in `shadow`, which only another READ of SCOUNT_LO or a RESET would change. -/
theorem splitCounterReadIsConsistent : Obligations.SplitCounterReadIsConsistent := by
  intro s s1 s2 mid keeps first between
  rw [exec_rdScountLo, answer_eq] at first
  cases first
  refine ⟨_, _, _, rfl, answer_eq s2.counters.shadow s2, rfl, ?_⟩
  rw [execAll_shadow_kept between keeps]
  exact toNat_eq_halves s.counters.scount

/-! ## FLAGS (R25) -/

theorem setFlagIf_setFlags (c : Bool) (f : Flag) (s : State) (w : BitVec 4) :
    ∃ g, setFlagIf c f (s.setFlags w) = (setFlagIf c f s).setFlags g := by
  rw [setFlagIf_eq, setFlagIf_eq]; exact ⟨_, rfl⟩

theorem tick_setFlags (s : State) (w : BitVec 4) : ∃ g, tick (s.setFlags w) = (tick s).setFlags g := by
  by_cases idle : s.voice.stage = .idle
  · rw [tick_idle idle, tick_idle (s := s.setFlags w) idle]; exact ⟨_, rfl⟩
  · rw [tick_active idle, tick_active (s := s.setFlags w) idle]; exact ⟨_, rfl⟩

/-- A WARL write stores the same value whatever FLAGS holds. -/
theorem warl_setFlags {x lo hi : Int} {store : Word → State → State}
    (hstore : ∀ v s w, store v (s.setFlags w) = (store v s).setFlags w) {s t : State}
    (h : warl x lo hi store s = .next t) (w : BitVec 4) :
    ∃ g, warl x lo hi store (s.setFlags w) = .next (t.setFlags g) := by
  rw [warl_eq] at h ⊢
  obtain ⟨g, hg⟩ := setFlagIf_setFlags (clamp x lo hi != x) .clamp s w
  cases h
  exact ⟨g, by rw [hg, hstore]⟩

/-- No operation but READ FLAGS sees FLAGS. -/
theorem exec_setFlags {i : Instr} (notRead : i ≠ .rdFlags) {s t : State} (h : exec i s = .next t) (w : BitVec 4) :
    ∃ g, exec i (s.setFlags w) = .next (t.setFlags g) := by
  cases i
  case rdFlags => exact absurd rfl notRead
  case tick =>
    obtain ⟨g, hg⟩ := tick_setFlags s w
    exact ⟨g, by rw [eq_tick_of_exec h, exec_tick, hg]⟩
  case noteOff x note y =>
    rw [exec_noteOff] at h ⊢
    cases h
    exact ⟨w, by rw [State.setFlags_voice]; split <;> rfl⟩
  case wrA4Ftw | wrFtwMin | wrEnvAttack | wrEnvDecay | wrEnvSustain | wrEnvRelease | wrEnvFloor
      | wrTargetBend | wrTargetDetune | wrTargetMix | wrTargetCutoff | wrTargetRes | wrTargetGain | wrTargetLfoRate
      | wrTargetDepthPitch | wrTargetDepthCut | wrTargetDepthAmp =>
    simp only [exec, execWrA4Ftw, execWrFtwMin, execWrEnvAttack, execWrEnvDecay, execWrEnvSustain, execWrEnvRelease,
      execWrEnvFloor, execWrTargetBend, execWrTargetDetune, execWrTargetMix, execWrTargetCutoff, execWrTargetRes,
      execWrTargetGain, execWrTargetLfoRate, execWrTargetDepthPitch, execWrTargetDepthCut, execWrTargetDepthAmp,
      writeTarget] at h ⊢
    exact warl_setFlags (fun _ _ _ => rfl) h w
  all_goals (cases h; exact ⟨_, rfl⟩)

/-- Settles O58: by induction over the operations, each of which leaves two states that differ only in FLAGS. -/
theorem flagsAlterNoOperation : Obligations.FlagsAlterNoOperation := by
  intro is
  induction is with
  | nil => intro s t w _ h; cases h; exact ⟨w, rfl⟩
  | cons i is ih =>
    intro s t w notRead h
    obtain ⟨u, hu, rest⟩ := execAll_cons_next h
    obtain ⟨g, hg⟩ := exec_setFlags (fun e => notRead (e ▸ .head _)) hu w
    obtain ⟨v, hv⟩ := ih u t g (fun mem => notRead (.tail _ mem)) rest
    exact ⟨v, (execAll_cons is hg).trans hv⟩

/-! ## The LFOs of several blocks (R188) -/

theorem lfoView_eq_iff {s s' : State} :
    lfoView s = lfoView s' ↔ s.lfo = s'.lfo ∧ s.slots.get .lfoRate = s'.slots.get .lfoRate := Prod.mk_inj

/-- A TICK moves the LFO by its own phase and shape and the smoothed LFO_RATE. -/
theorem tick_lfoView_congr {s s' : State} (h : lfoView s = lfoView s') : lfoView (tick s) = lfoView (tick s') := by
  obtain ⟨lfo, rate⟩ := lfoView_eq_iff.1 h
  have rate' : (tick s).slots.get .lfoRate = (tick s').slots.get .lfoRate := by
    rw [tick_slots_get, tick_slots_get, rate]
  have lfo' : (tick s).lfo = (tick s').lfo := by
    rw [tick_lfo_eq, tick_lfo_eq, curOf, curOf, rate', tickLv, tickLv, lfo]
  exact lfoView_eq_iff.2 ⟨lfo', rate'⟩

theorem Effect.lfoView_kept {s t : State} {i : Instr} (e : Effect s i t) (h : touchesLfo i = false) :
    lfoView t = lfoView s := by
  cases e
  case tick | reset | wrLfoCtrl => cases h
  case wrTarget j d v f hv hf =>
    have other : Slot.lfoRate ≠ j := by rintro rfl; cases h
    exact lfoView_eq_iff.2 ⟨rfl, SlotFile.get_set_of_ne _ _ other⟩
  case wrSmcfg j d =>
    have other : Slot.lfoRate ≠ j := by rintro rfl; cases h
    exact lfoView_eq_iff.2 ⟨rfl, SlotFile.get_set_of_ne _ _ other⟩
  all_goals rfl

/-- What an operation does to the LFO and its rate slot depends on nothing else. -/
theorem exec_lfoView_congr {i : Instr} {s s' t t' : State} (h : lfoView s = lfoView s') (ht : exec i s = .next t)
    (ht' : exec i s' = .next t') : lfoView t = lfoView t' := by
  cases htouch : touchesLfo i
  case false => rw [(effect_of_exec ht).lfoView_kept htouch, (effect_of_exec ht').lfoView_kept htouch, h]
  case true =>
    obtain ⟨lfo, rate⟩ := lfoView_eq_iff.1 h
    cases i
    case tick => rw [eq_tick_of_exec ht, eq_tick_of_exec ht']; exact tick_lfoView_congr h
    case reset => cases ht; cases ht'; rfl
    case wrLfoCtrl d => cases ht; cases ht'; exact lfoView_eq_iff.2 ⟨by simp [lfo], rate⟩
    case wrTargetLfoRate d =>
      have e := exec_wrTarget_eq .lfoRate d
      cases (e s).symm.trans ht; cases (e s').symm.trans ht'
      exact lfoView_eq_iff.2 ⟨lfo, by simp [rate]⟩
    case wrSmcfgLfoRate d =>
      have e := exec_wrSmcfg_eq .lfoRate d
      cases (e s).symm.trans ht; cases (e s').symm.trans ht'
      exact lfoView_eq_iff.2 ⟨lfo, by simp [rate]⟩
    all_goals cases htouch

/-- Leaving out the operations that do not touch the LFO does not change it. -/
theorem execAll_filter_lfoView {is : List Instr} {s s' t t' : State} (h : lfoView s = lfoView s')
    (ht : execAll is s = .next t) (ht' : execAll (is.filter touchesLfo) s' = .next t') : lfoView t = lfoView t' := by
  induction is generalizing s s' with
  | nil => cases ht; cases ht'; exact h
  | cons i is ih =>
    obtain ⟨u, hu, rest⟩ := execAll_cons_next ht
    cases htouch : touchesLfo i
    case false =>
      rw [List.filter_cons_of_neg (by simp [htouch])] at ht'
      exact ih (((effect_of_exec hu).lfoView_kept htouch).trans h) rest ht'
    case true =>
      rw [List.filter_cons_of_pos htouch] at ht'
      obtain ⟨u', hu', rest'⟩ := execAll_cons_next ht'
      exact ih (exec_lfoView_congr h hu hu') rest rest'

/-- Settles O59: both runs agree with the run of the operations that touch the LFO, which are the same. -/
theorem instancesKeepIdenticalLfos : Obligations.InstancesKeepIdenticalLfos := by
  intro is js s s' t t' same h ht ht'
  obtain ⟨u, hu⟩ := execAll_completes (js.filter touchesLfo) s'
  exact (execAll_filter_lfoView h ht (same ▸ hu)).trans (execAll_filter_lfoView rfl ht' hu).symm

end Sys2Proof.Machine
end

section
/-! SUPPORT. The side effects of reading (spec/20_memory.md R53), the filter's registers (spec/40_bus_access.md R114 to
R122), and the preset round trip (spec/41_parameters.md R132). -/

namespace Sys2Proof.Machine

/-! ## The side effects of READ (R53) -/

/-- Settles O15: the coefficients are 32 bits wide, the history is sign-extended. -/
theorem readsOfFilterRegisters : Obligations.ReadsOfFilterRegisters :=
  ⟨by simp [encode], fun s => ⟨answer_eq s.coef.b0 s, answer_eq s.coef.b1 s, answer_eq s.coef.b2 s, answer_eq s.coef.a1 s,
    answer_eq s.coef.a2 s, answer_of_eq (sext32_eq_ofInt s.hist.x1) s, answer_of_eq (sext32_eq_ofInt s.hist.x2) s,
    answer_of_eq (sext32_eq_ofInt s.hist.y1) s, answer_of_eq (sext32_eq_ofInt s.hist.y2) s⟩⟩

/-- Every mapped address but that of SCOUNT_LO reads without a side effect, address by address. -/
theorem plainRead_decodeRead_mapped : ∀ a : Addr, a ≠ 0x040#9 → a.mapped = true → plainRead (decodeRead a) = true := by
  decide +kernel

theorem exec_plainRead {i : Instr} (h : plainRead i = true) (s : State) :
    ∃ v : Word, exec i s = .next { s with rdata := some v } := by
  obtain ⟨t, ht, effect⟩ := exec_effect i s
  cases effect
  case read v _ => exact ⟨v, ht⟩
  case wrTarget j _ _ _ _ _ | wrSmcfg j _ => cases j <;> cases h
  case reserved hr => cases i <;> cases h <;> cases hr
  all_goals cases h

/-- Settles O17: SCOUNT_LO, the other mapped addresses, and the rest. -/
theorem readSideEffectsAreTheListedOnes : Obligations.ReadSideEffectsAreTheListedOnes := by
  intro a s
  by_cases lo : a = 0x040#9
  · subst lo
    exact ⟨_, exec_rdScountLo s⟩
  by_cases mapped : a.mapped = true
  · obtain ⟨v, hv⟩ := exec_plainRead (plainRead_decodeRead_mapped a lo mapped) s
    exact ⟨v, by rw [if_neg lo, if_pos mapped]; exact hv⟩
  · refine ⟨0#32, ?_⟩
    rw [if_neg lo, if_neg mapped, busRead, decodeRead_unmapped a (Bool.eq_false_iff.2 mapped), exec_rdBad]

/-! ## The preset round trip (R132) -/

/-- A register whose own value, written back, changes nothing passes the round trip: its READ returns that value. -/
theorem write_back {rd : Instr} {wr : Word → Instr} {s : State} {v w : Word} (read : exec rd s = answer w s)
    (write : exec (wr w) s = .next s) (h : exec rd s = .next { s with rdata := some v }) : exec (wr v) s = .next s := by
  rw [read, answer_eq] at h
  injection h with h
  have same : w = v := Option.some.inj (congrArg State.rdata h)
  rwa [← same]

@[simp] theorem FilterMode.ofCode_code (m : FilterMode) : FilterMode.ofCode m.code = m := by cases m <;> rfl

@[simp] theorem LfoShape.ofCode_code (g : LfoShape) : LfoShape.ofCode g.code = g := by cases g <;> rfl

theorem getLsbD_zero_zext32_ofBool (b : Bool) : (zext32 (BitVec.ofBool b)).getLsbD 0 = b := by cases b <;> rfl

/-- A field no wider than 32 bits reads back from the foot of its zero-extension. -/
theorem extractLsb'_zext32 {n : Nat} (h : n ≤ 32) (v : BitVec n) : (zext32 v).extractLsb' 0 n = v := by
  apply BitVec.eq_of_toNat_eq
  rw [toNat_extractLsb'_eq_div_mod, toNat_zext32 h, Nat.pow_zero, Nat.div_one, Nat.mod_eq_of_lt v.isLt]

/-- OSC_CTRL takes back the fields it lays out (R81, R82). -/
theorem oscCtrlOf_oscCtrlWord (c : OscCtrl) : oscCtrlOf (oscCtrlWord c) = c := by
  obtain ⟨waveA, waveB, freeRun⟩ := c
  cases waveA <;> cases waveB <;> cases freeRun <;> rfl

/-- SMCFG takes back the fields it lays out (R128, R129). -/
theorem smcfg_fields (shift : BitVec 5) (maxstep : BitVec 24) :
    (maxstep ++ 0#3 ++ shift : Word).extractLsb' 0 5 = shift ∧
      (maxstep ++ 0#3 ++ shift : Word).extractLsb' 8 24 = maxstep := by
  have hs := shift.isLt
  constructor
  all_goals
    apply BitVec.eq_of_toNat_eq
    simp only [toNat_extractLsb'_eq_div_mod, toNat_append_eq_add, BitVec.toNat_ofNat]
    omega

theorem u32_toNat_self (w : Word) : u32 w.toNat = w := by simp [u32]

/-- A WARL write of a 32-bit register's own value, when it is in range. -/
theorem warl_self_word {w : Word} {lo hi : Int} (h : within lo w.toNat hi) (store : Word → State → State) (s : State) :
    warl w.toNat lo hi store s = .next (store w s) := by
  rw [warl_of_range store s h.1 h.2, u32_toNat_self]

/-- A WARL write of a 24-bit field's own value, when it is in range. -/
theorem warl_self_field24 {w : BitVec 24} {lo hi : Int} (h : within lo w.toNat hi) (store : BitVec 24 → State → State)
    (s : State) : warl (zext32 w).toNat lo hi (fun v => store (v.setWidth 24)) s = .next (store w s) := by
  have e : (zext32 w).toNat = w.toNat := toNat_zext32 (by norm_num) w
  have back : (zext32 w).setWidth 24 = w := extractLsb'_zext32 (by norm_num) w
  rw [warl_self_word (by rw [e]; exact h), back]

/-- TARGET[i] written back with its own value. -/
theorem exec_wrTarget_self {s : State} (i : Slot) (h : SlotRegs.Legal i (s.slots.get i)) :
    exec (.wrTarget i (s.slots.get i).tgt) s = .next s := by
  rw [exec_wrTarget, writeTarget, warl_of_range _ s h.1.1 h.1.2, u32_slotValue]
  exact congrArg (fun f => Host.Outcome.next (s.setSlots f)) (SlotFile.set_get s.slots i)

/-- SMCFG[i] written back with its own value. -/
theorem exec_wrSmcfg_self (s : State) (i : Slot) :
    exec (.wrSmcfg i ((s.slots.get i).maxstep ++ 0#3 ++ (s.slots.get i).shift)) s = .next s := by
  obtain ⟨shift, maxstep⟩ := smcfg_fields (s.slots.get i).shift (s.slots.get i).maxstep
  rw [exec_wrSmcfg, writeSmcfg, shift, maxstep]
  exact congrArg (fun f => Host.Outcome.next (s.setSlots f)) (SlotFile.set_get s.slots i)

theorem exec_wrIrqEn_self (s : State) : exec (.wrIrqEn (zext32 (BitVec.ofBool s.irqEn))) s = .next s := by
  rw [exec_wrIrqEn, getLsbD_zero_zext32_ofBool]

theorem exec_wrOscCtrl_self (s : State) : exec (.wrOscCtrl (oscCtrlWord s.oscCtl)) s = .next s := by
  rw [exec_wrOscCtrl, oscCtrlOf_oscCtrlWord]

theorem exec_wrFiltCtrl_self (s : State) : exec (.wrFiltCtrl (zext32 s.mode.code)) s = .next s := by
  rw [exec_wrFiltCtrl, extractLsb'_zext32 (by norm_num), FilterMode.ofCode_code]

theorem exec_wrLfoCtrl_self (s : State) : exec (.wrLfoCtrl (zext32 s.lfo.shape.code)) s = .next s := by
  rw [exec_wrLfoCtrl, extractLsb'_zext32 (by norm_num), LfoShape.ofCode_code]

/-- Settles O23: each register's own value, written back, changes nothing; a WARL field's because it is in range. -/
theorem presetRoundTripChangesNothing : Obligations.PresetRoundTripChangesNothing := fun s hs _ =>
  ⟨fun i => write_back (exec_rdTarget i s) (exec_wrTarget_self i (hs.slots i)),
    fun i => write_back (exec_rdSmcfg i s) (exec_wrSmcfg_self s i),
    write_back rfl (exec_wrIrqEn_self s),
    write_back rfl (exec_wrOscCtrl_self s),
    write_back rfl (exec_wrFiltCtrl_self s),
    write_back rfl (exec_wrLfoCtrl_self s),
    write_back rfl (warl_self_word hs.a4Ftw (fun v s => s.setTuning { s.tuning with a4Ftw := v }) s),
    write_back rfl (warl_self_word hs.ftwMin (fun v s => s.setTuning { s.tuning with ftwMin := v }) s),
    write_back rfl (warl_self_field24 hs.att (fun v s => s.setEnvCtl { s.envCtl with att := v }) s),
    write_back rfl (warl_self_field24 hs.dec (fun v s => s.setEnvCtl { s.envCtl with dec := v }) s),
    write_back rfl (warl_self_field24 hs.sus (fun v s => s.setEnvCtl { s.envCtl with sus := v }) s),
    write_back rfl (warl_self_field24 hs.rel (fun v s => s.setEnvCtl { s.envCtl with rel := v }) s),
    write_back rfl (warl_self_field24 hs.floor (fun v s => s.setEnvCtl { s.envCtl with floor := v }) s)⟩

end Sys2Proof.Machine
end

section
/-! SUPPORT. The ROMs (spec/44_oscillator.md R144, R148), pitch to increment (R149, R150), and the stability of the filter
(spec/45_filter.md R167). -/

namespace Sys2Proof.Machine

/-! ## SINE_ROM (R144) -/

/-- Settles O46: the range is the lemma of the ROM, the other properties are checked entry by entry. -/
theorem sineRomHasItsProperties : Obligations.SineRomHasItsProperties := by
  refine ⟨sineRom_zero, sineRom_peak, ?_, ?_, ?_, ?_, ?_, sineRom_range, ?_⟩
  all_goals decide +kernel

/-! ## EXP_ROM (R148)

The powers of the characterisation are compared for every exponent n, so that none of them is ever computed. -/

/-- Bernoulli: a base that grows by less than its 2n-th part does not double its n-th power. -/
theorem add_pow_lt_two_mul_pow {a d n : Nat} (ha : 0 < a) (h : 2 * n * d < a + d) : (a + d) ^ n < 2 * a ^ n := by
  have pos : (0 : ℚ) < a + d := by positivity
  have bernoulli : 1 + (n : ℚ) * (a / (a + d) - 1) ≤ (a / (a + d)) ^ n :=
    one_add_mul_sub_le_pow (by have : (0 : ℚ) ≤ a / (a + d) := by positivity
                               linarith) n
  have half : (1 : ℚ) / 2 < (a / (a + d)) ^ n := by
    refine lt_of_lt_of_le ?_ bernoulli
    have h' : 2 * (n : ℚ) * d < a + d := by exact_mod_cast h
    have : (n : ℚ) * (a / (a + d) - 1) = -(n * d / (a + d)) := by field_simp; ring
    rw [this, ← sub_eq_add_neg, lt_sub_comm, div_lt_iff₀ pos]
    linarith
  rw [div_pow, lt_div_iff₀ (by positivity)] at half
  have : ((a : ℚ) + d) ^ n < 2 * (a : ℚ) ^ n := by linarith
  exact_mod_cast this

/-- Close below 2^32 the n-th power is still above every power of two the characterisation names. -/
theorem two_pow_lt_pow_of_near_top {n r m : Nat} (hn : n ≤ 12288) (hr : r < n) (hm : 2 ^ 32 - 3 ≤ m) :
    2 ^ (n * 31 + r) < m ^ n := by
  have double : (2 ^ 32 - 3 + 3) ^ n < 2 * (2 ^ 32 - 3) ^ n := add_pow_lt_two_mul_pow (by norm_num) (by omega)
  have : 2 * 2 ^ (n * 31 + r) ≤ (2 ^ 32 - 3 + 3) ^ n := by
    rw [← Nat.pow_succ', show 2 ^ 32 - 3 + 3 = 2 ^ 32 from rfl, ← Nat.pow_mul]
    exact Nat.pow_le_pow_right (by norm_num) (by omega)
  calc 2 ^ (n * 31 + r) < (2 ^ 32 - 3) ^ n := by omega
    _ ≤ m ^ n := Nat.pow_le_pow_left hm n

theorem belowExp_of_le {r v w : Nat} (h : v ≤ w) (hw : belowExp r w = true) : belowExp r v = true := by
  have key : ∀ n m, (2 * w - 1) ^ n < m → (2 * v - 1) ^ n < m := fun n _ => (Nat.pow_le_pow_left (by omega) n).trans_lt
  exact (belowExp_iff r v).2 (key _ _ ((belowExp_iff r w).1 hw))

theorem not_belowExp_zero {v : Nat} (h : 2 ^ 30 < v) : belowExp 0 v = false := by
  have key : ∀ n, ¬(2 * v - 1) ^ n < 2 ^ (n * 31 + 0) := fun n => by
    rw [not_lt, Nat.add_zero, Nat.mul_comm, Nat.pow_mul]
    exact Nat.pow_le_pow_left (by omega) n
  exact Bool.eq_false_iff.2 (mt (belowExp_iff 0 v).1 (key _))

theorem expRom_zero : expRom 0 = 2 ^ 30 := by
  by_contra ne
  have above : 2 ^ 30 < expRom 0 := lt_of_le_of_ne (expRom_range 0).1 (Ne.symm ne)
  exact Bool.false_ne_true ((not_belowExp_zero above).symm.trans (expRom_maximal 0).1)

/-- An odd number's power is no power of two. -/
theorem odd_pow_ne_two_pow {m n k : Nat} (hm : m % 2 = 1) (hk : k ≠ 0) : 2 ^ k ≠ m ^ n := by
  intro e
  have even : Even (2 ^ k) := (Nat.even_pow' hk).2 even_two
  rw [e] at even
  exact Nat.not_even_iff_odd.2 ((Nat.odd_iff.2 hm).pow) even

/-- The second half of the characterisation (R148). -/
theorem expRom_above {r : Nat} (hr : r < 12288) : 2 ^ (12288 * 31 + r) < (2 * expRom r + 1) ^ 12288 := by
  rcases (expRom_maximal r).2 with next | top
  · have le : ¬(2 * (expRom r + 1) - 1) ^ 12288 < 2 ^ (12288 * 31 + r) := fun below =>
      Bool.false_ne_true (next.symm.trans ((belowExp_iff r _).2 below))
    rw [show 2 * (expRom r + 1) - 1 = 2 * expRom r + 1 by omega] at le
    exact lt_of_le_of_ne (not_lt.1 le) (odd_pow_ne_two_pow (by omega) (by omega))
  · exact two_pow_lt_pow_of_near_top le_rfl hr (by omega)

/-- One more in the index doubles the bound, one more in the entry does not double the power. -/
theorem belowExp_succ {r v : Nat} (hv : 2 ^ 30 ≤ v) (h : belowExp r v = true) : belowExp (r + 1) (v + 1) = true := by
  have key : ∀ n, n ≤ 12288 → (2 * v - 1) ^ n < 2 ^ (n * 31 + r) → (2 * (v + 1) - 1) ^ n < 2 ^ (n * 31 + (r + 1)) := by
    intro n hn below
    have double := add_pow_lt_two_mul_pow (a := 2 * v - 1) (d := 2) (n := n) (by omega) (by omega)
    rw [show 2 * v - 1 + 2 = 2 * (v + 1) - 1 by omega] at double
    rw [← Nat.add_assoc, Nat.pow_succ']
    omega
  exact (belowExp_iff _ _).2 (key _ le_rfl ((belowExp_iff r v).1 h))

theorem expRom_lt_succ {r : Nat} (hr : r < 12287) : expRom r < expRom (r + 1) := by
  have range := expRom_range r
  have below := (expRom_maximal r).1
  by_contra le
  rcases (expRom_maximal (r + 1)).2 with next | top
  · have below' := belowExp_of_le (v := expRom (r + 1) + 1) (by omega) (belowExp_succ range.1 below)
    exact Bool.false_ne_true (next.symm.trans below')
  · have : 2 ^ (12288 * 31 + r) < (2 * expRom r - 1) ^ 12288 :=
      two_pow_lt_pow_of_near_top le_rfl (by omega) (by omega)
    exact this.asymm ((belowExp_iff r _).1 below)

/-- Settles O47: the search finds the largest entry below, and the next number is above. -/
theorem expRomIsTheCharacterisedTable : Obligations.ExpRomIsTheCharacterisedTable :=
  ⟨expRom_zero, fun r _ hr => ⟨(belowExp_iff r _).1 (expRom_maximal r).1, expRom_above hr⟩, fun r _ => expRom_range r,
    fun _ => expRom_lt_succ⟩

/-! ## Pitch to increment (R150) -/

/-- The increment of octave k from `n = a4 * EXP_ROM[r]`: `floor(n * 2^(k - 30))`. -/
def octave (k n : Int) : Int := if 0 ≤ k then asr (shl n k.toNat) 30 else asr n (30 - k).toNat

/-- Every pitch is an octave and an index into EXP_ROM. -/
theorem p2fRaw_eq_octave (a4 k : Int) {r : Nat} (hr : r < 12288) :
    p2fRaw a4 (12288 * k + r) = octave k (a4 * expRom r) := by
  have hk : fdiv (12288 * k + r) 12288 = k := by unfold fdiv; omega
  simp only [p2fRaw, hk, add_sub_cancel_left, Int.toNat_natCast, octave]

theorem exists_octave_index (p : Int) : ∃ (k : Int) (r : Nat), r < 12288 ∧ p = 12288 * k + r :=
  ⟨p / 12288, (p % 12288).toNat, by omega, by omega⟩

theorem asr_two_mul_succ (n : Int) (j : Nat) : asr (2 * n) (j + 1) = asr n j := by
  rw [asr, asr, fdiv, fdiv, pow_succ', Int.mul_ediv_mul_of_pos _ _ (by norm_num)]

/-- Doubling before the shift gives the double, or one unit more. -/
theorem asr_two_mul (n : Int) (j : Nat) : 2 * asr n j ≤ asr (2 * n) j ∧ asr (2 * n) j ≤ 2 * asr n j + 1 := by
  have pos : (0 : Int) < 2 ^ j := by positivity
  have lo := fdiv_mul_le (n := n) pos
  have hi := lt_fdiv_mul (n := n) pos
  constructor
  · rw [asr, asr, fdiv_le_iff pos]; linarith
  · rw [← Int.lt_add_one_iff, asr, asr, fdiv_lt_iff pos]; linarith

theorem octave_succ (k n : Int) : octave (k + 1) n = octave k (2 * n) := by
  rcases lt_trichotomy k (-1) with below | rfl | above
  · rw [octave, octave, if_neg (by omega), if_neg (by omega), show (30 - k).toNat = (30 - (k + 1)).toNat + 1 by omega,
      asr_two_mul_succ]
  · rw [octave, octave, if_pos (by norm_num), if_neg (by norm_num)]
    exact ((asr_two_mul_succ n 30).trans (by simp [shl])).symm
  · rw [octave, octave, if_pos (by omega), if_pos (by omega), show (k + 1).toNat = k.toNat + 1 by omega, shl, shl, pow_succ]
    congr 1; ring

theorem octave_two_mul (k n : Int) : 2 * octave k n ≤ octave k (2 * n) ∧ octave k (2 * n) ≤ 2 * octave k n + 1 := by
  unfold octave
  split
  · rw [show shl (2 * n) k.toNat = 2 * shl n k.toNat by unfold shl; ring]
    exact asr_two_mul _ _
  · exact asr_two_mul _ _

theorem octave_mono (k : Int) {n m : Int} (h : n ≤ m) : octave k n ≤ octave k m := by
  unfold octave
  split
  · exact fdiv_mono (by positivity) (mul_le_mul_of_nonneg_right h (by positivity))
  · exact fdiv_mono (by positivity) h

/-- Within an octave by EXP_ROM's order; into the next because every entry is below 2^31, twice the first. -/
theorem p2fRaw_le_succ {a4 : Int} (ha : 0 ≤ a4) (p : Int) : p2fRaw a4 p ≤ p2fRaw a4 (p + 1) := by
  obtain ⟨k, r, hr, rfl⟩ := exists_octave_index p
  rw [p2fRaw_eq_octave a4 k hr]
  by_cases last : r = 12287
  · have next := p2fRaw_eq_octave a4 (k + 1) (r := 0) (by norm_num)
    have top : (expRom r : Int) ≤ 2 * 2 ^ 30 := by have := (expRom_range r).2; omega
    rw [expRom_zero, octave_succ] at next
    rw [show 12288 * k + r + 1 = 12288 * (k + 1) + (0 : Nat) by omega, next]
    refine octave_mono k ((mul_le_mul_of_nonneg_left top ha).trans_eq ?_)
    push_cast; ring
  · have next := p2fRaw_eq_octave a4 k (r := r + 1) (by omega)
    have step : (expRom r : Int) ≤ expRom (r + 1) := Int.ofNat_le.2 (expRom_lt_succ (by omega)).le
    rw [add_assoc, ← Nat.cast_succ, next]
    exact octave_mono k (mul_le_mul_of_nonneg_left step ha)

theorem p2fRaw_mono {a4 p q : Int} (ha : 0 ≤ a4) (h : p ≤ q) : p2fRaw a4 p ≤ p2fRaw a4 q :=
  monotone_int_of_le_succ (p2fRaw_le_succ ha) h

theorem p2fRaw_first_octave (a4 : Int) {r : Nat} (hr : r < 12288) : p2fRaw a4 r = a4 * expRom r / 2 ^ 30 := by
  have eq := p2fRaw_eq_octave a4 0 hr
  rw [mul_zero, zero_add] at eq
  rw [eq, octave, if_pos le_rfl, shl, Int.toNat_zero, pow_zero, mul_one]; rfl

theorem p2fRaw_zero (a4 : Int) : p2fRaw a4 0 = a4 := by
  rw [← Nat.cast_zero, p2fRaw_first_octave a4 (by norm_num), expRom_zero]
  exact Int.mul_ediv_cancel a4 (by norm_num)

theorem p2fRaw_add_octave (a4 p : Int) :
    2 * p2fRaw a4 p ≤ p2fRaw a4 (p + 12288) ∧ p2fRaw a4 (p + 12288) ≤ 2 * p2fRaw a4 p + 1 := by
  obtain ⟨k, r, hr, rfl⟩ := exists_octave_index p
  rw [show 12288 * k + r + 12288 = 12288 * (k + 1) + r by ring, p2fRaw_eq_octave a4 k hr, p2fRaw_eq_octave a4 (k + 1) hr,
    octave_succ]
  exact octave_two_mul _ _

theorem p2f_eq_max_min {a4 lo p : Int} (h : lo ≤ 2 ^ 31 - 1) :
    p2f a4 lo p = max lo (min (p2fRaw a4 (max (-196608) (min p 196608))) (2 ^ 31 - 1)) := by
  rw [p2f, pLim_eq, show Config.ftwMax = 2 ^ 31 - 1 from rfl, clamp_eq_max_min h, clamp_eq_max_min (by norm_num)]

theorem p2f_mono {a4 lo p q : Int} (ha : 0 ≤ a4) (h : lo ≤ 2 ^ 31 - 1) (hpq : p ≤ q) : p2f a4 lo p ≤ p2f a4 lo q := by
  have raw := p2fRaw_mono ha (p := max (-196608) (min p 196608)) (q := max (-196608) (min q 196608)) (by omega)
  rw [p2f_eq_max_min h, p2f_eq_max_min h]
  omega

/-- Settles O35: an octave and an index at a time. -/
theorem pitchToIncrementIsMonotone : Obligations.PitchToIncrementIsMonotone :=
  ⟨p2fRaw_zero, fun a4 _ => p2fRaw_first_octave a4, fun a4 p _ => p2fRaw_add_octave a4 p, fun _ _ _ => p2f_eq_max_min,
    fun _ _ _ _ ha => p2f_mono (by omega)⟩

/-! ## The stability of the filter (R167) -/

/-- The poles of R167, from the bounds of cos(w0) and alpha: `2^29 + a2` is `2^53 / a0` rounded down, and `2^53` is more
than 10 * 2^30 above the numerator of a1, which a0 < 2^25 cannot make up for. -/
theorem coef_stable {c q : Int} (c0 : 0x00040000 ≤ c) (c1 : c ≤ 0x7C000000) (q0 : 0x0800 ≤ q) (q1 : q ≤ 0xFFFF) :
    |coefA2 c q| < 2 ^ 29 ∧ |coefA1 c q| < 2 ^ 29 + coefA2 c q := by
  obtain ⟨cs0, cs1⟩ := coefCs_range c0 c1
  obtain ⟨alpha0, alpha1⟩ := coefAlpha_range c0 c1 q0 q1
  have a0 : coefA0 c q = 2 ^ 23 + coefAlpha c q := rfl
  have pos : 0 < coefA0 c q := by omega
  have rounded : shl (2 ^ 23 - coefAlpha c q) 29 < (coefA2 c q + 1) * coefA0 c q := lt_fdiv_mul pos
  have sum : 2 ^ 53 - coefA0 c q < (2 ^ 29 + coefA2 c q) * coefA0 c q := by
    rw [shl] at rounded
    linarith
  have a2_nonneg : 0 ≤ coefA2 c q := fdiv_nonneg (by rw [shl]; omega) pos
  have a2_lt : coefA2 c q < 2 ^ 29 := by rw [coefA2, fdiv_lt_iff pos, shl]; omega
  have a1_lt : coefA1 c q < 2 ^ 29 + coefA2 c q := by rw [coefA1, fdiv_lt_iff pos]; omega
  have a1_gt : -(2 ^ 29 + coefA2 c q) + 1 ≤ coefA1 c q := by
    rw [coefA1, fdiv_le_iff pos]
    linarith
  exact ⟨by rwa [abs_of_nonneg a2_nonneg], abs_lt.2 ⟨by omega, a1_lt⟩⟩

/-- Settles O37: a BYPASS has no feedback, the other modes the poles above. -/
theorem filterIsAlwaysStable : Obligations.FilterIsAlwaysStable := by
  intro s t hs ht
  obtain rfl := eq_tick_of_exec ht
  obtain ⟨q0, q1⟩ : within 0x0800 (curOf .res (tick s)) 0xFFFF := curOf_tick_within hs .res
  rw [tick_coef_eq]
  generalize cutoff : cutoffEff (curOf .cutoff (tick s)) (curOf .depthCut (tick s)) (tickLv s) = c
  obtain ⟨c0, c1⟩ : within 0x00040000 c 0x7C000000 := cutoff ▸ cutoffEff_range _ _ _
  by_cases bypass : s.mode = .bypass
  · rw [bypass, store_coefValues_bypass]; decide
  · obtain ⟨-, -, -, a1, a2⟩ := store_coefValues_toInt s.mode c0 c1 q0 q1
    obtain ⟨a1', a2'⟩ := coefValues_feedback bypass c (curOf .res (tick s))
    rw [a1, a2, a1', a2']
    exact coef_stable c0 c1 q0 q1

end Sys2Proof.Machine
end

section
/-! SUPPORT. The oscillators (spec/44_oscillator.md): their pitches (R149), the shapes of the sine and the triangle (R146,
R147), the band-limiting residuals (R153, R154), and the outputs and the mix (R155, R157). -/

namespace Sys2Proof.Machine

/-! ## The pitches (R149) -/

/-- A route scales the depth by at most 1.0 either way (spec/46_lfo.md R170). -/
theorem route_within {lv depth m : Int} (hl : within (-2 ^ 23) lv (2 ^ 23)) (hd : within (-m) depth m) :
    within (-m) (route lv depth) m := by
  have bound : |lv * depth| ≤ 2 ^ 23 * m := by
    rw [abs_mul]
    exact mul_le_mul (abs_le.2 hl) (abs_le.2 hd) (abs_nonneg _) (by norm_num)
  obtain ⟨lo, hi⟩ := abs_le.1 bound
  constructor
  · rw [route, fdiv_le_iff (by norm_num)]; linarith
  · rw [← Int.lt_add_one_iff, route, fdiv_lt_iff (by norm_num)]; linarith

/-- The pitches of the two oscillators lie well inside P_LIM. -/
theorem tick_pitch_within {s : State} (hs : s.Legal) :
    let pA := pitchA s.voice.note.toNat (curOf .bend (tick s)) (curOf .depthPitch (tick s)) (tickLv s)
    within (-168960) pA 157696 ∧ within (-181248) (pitchB pA (curOf .detune (tick s))) 169984 := by
  have note := s.voice.note.isLt
  obtain ⟨bend0, bend1⟩ : within (-49152) (curOf .bend (tick s)) 49152 := curOf_tick_within hs .bend
  obtain ⟨detune0, detune1⟩ : within (-12288) (curOf .detune (tick s)) 12288 := curOf_tick_within hs .detune
  obtain ⟨route0, route1⟩ := route_within (tickLv_range s) (curOf_tick_within hs .depthPitch : within (-49152) _ 49152)
  simp only [pitchB, pitchA, within]
  omega

/-- Settles O34: the registers hold the increments exactly, and those are in the range of the clamp. -/
theorem incrementsStayBelowNyquist : Obligations.IncrementsStayBelowNyquist := by
  intro s t hs ht cur pA
  obtain rfl := eq_tick_of_exec ht
  obtain ⟨rangeA, rangeB⟩ := tick_ftw_range hs
  obtain ⟨a, b⟩ := tick_ftw_toNat hs
  obtain ⟨inA, inB⟩ := tick_pitch_within hs
  exact ⟨⟨by omega, by omega⟩, ⟨by omega, by omega⟩, a, b, inA, inB⟩

/-! ## The sine and the triangle (R146, R147) -/

theorem triN_half_turn {p : Int} (h0 : 0 ≤ p) (h1 : p < 2 ^ 32) : triN ((p + 2 ^ 31) % 2 ^ 32) = -triN p := by
  simp only [triN, asr, fdiv]
  split_ifs <;> omega

theorem triN_step {p : Int} (h0 : 0 ≤ p) (h1 : p < 2 ^ 32) : |triN ((p + 1) % 2 ^ 32) - triN p| ≤ 1 := by
  rw [abs_le]
  simp only [triN, asr, fdiv]
  split_ifs <;> omega

/-- Settles O48: the sine between the entries of its segment, the triangle by its three pieces. -/
theorem sineAndTriangleShapes : Obligations.SineAndTriangleShapes :=
  ⟨fun p h0 h1 => ⟨(sine_between p).1, (sine_between p).2, sine_range h0 h1⟩, fun k _ => sine_segment_start k,
    (sine_segment_start 256).trans sineRom_peak,
    fun _ h0 h1 => ⟨triN_range h0 h1, triN_half_turn h0 h1, triN_step h0 h1⟩, rfl, rfl, rfl, rfl⟩

/-! ## The band-limiting residuals (R153, R154) -/

theorem blep_after {t dt : Int} (h : t < dt) : blep t dt = -asr ((2 ^ 16 - nearness t dt) ^ 2) 9 := if_pos h

theorem blep_before {t dt : Int} (h : dt ≤ t) (h' : 2 ^ 32 - t < dt) :
    blep t dt = asr ((2 ^ 16 - nearness (2 ^ 32 - t) dt) ^ 2) 9 := by rw [blep, if_neg (by omega), if_pos h']

theorem blep_outside {t dt : Int} (h : dt ≤ t) (h' : dt ≤ 2 ^ 32 - t) : blep t dt = 0 := by
  rw [blep, if_neg (by omega), if_neg (by omega)]

theorem blamp_after {t dt : Int} (h : t < dt) : blamp t dt = blampAt (nearness t dt) dt := if_pos h

theorem blamp_before {t dt : Int} (h : dt ≤ t) (h' : 2 ^ 32 - t < dt) :
    blamp t dt = blampAt (nearness (2 ^ 32 - t) dt) dt := by rw [blamp, if_neg (by omega), if_pos h']

theorem blamp_outside {t dt : Int} (h : dt ≤ t) (h' : dt ≤ 2 ^ 32 - t) : blamp t dt = 0 := by
  rw [blamp, if_neg (by omega), if_neg (by omega)]

@[simp] theorem nearness_zero (dt : Int) : nearness 0 dt = 0 := by simp [nearness, shl]

/-- Half an increment away the nearness is 2^15. -/
theorem nearness_half {m : Int} (h : 0 < m) : nearness m (2 * m) = 2 ^ 15 := by
  rw [nearness, shl, show m * 2 ^ 16 = 2 ^ 15 * (2 * m) by ring, fdiv_mul_self (by omega)]

theorem blampAt_zero (dt : Int) : blampAt 0 dt = dt / 384 := by
  simp only [blampAt, fdiv]; omega

theorem blampAt_half (dt : Int) : blampAt (2 ^ 15) dt = dt / 3072 := by
  simp only [blampAt, fdiv]; omega

/-- The ramp residual is largest at the corner itself. -/
theorem blampAt_within {x dt : Int} (hdt : 0 ≤ dt) (h0 : 0 ≤ x) (h1 : x < 2 ^ 16) :
    within 0 (blampAt x dt) (dt / 384) := by
  have cube0 : 0 ≤ (2 ^ 16 - x) ^ 3 := pow_nonneg (by omega) 3
  have cube1 : (2 ^ 16 - x) ^ 3 ≤ (2 ^ 16 - 0) ^ 3 := pow_le_pow_left₀ (by omega) (by omega) 3
  refine ⟨fdiv_nonneg (mul_nonneg hdt cube0) (by norm_num), ?_⟩
  rw [← blampAt_zero]
  exact fdiv_mono (by norm_num) (mul_le_mul_of_nonneg_left cube1 hdt)

theorem blep_within {t dt : Int} (h0 : 0 ≤ t) (h1 : t < 2 ^ 32) : within (-2 ^ 23) (blep t dt) (2 ^ 23) := by
  by_cases after : t < dt
  · obtain ⟨x0, x1⟩ := nearness_range h0 after
    have := blepSquare_range x0 x1
    rw [blep_after after]
    constructor <;> omega
  by_cases before : 2 ^ 32 - t < dt
  · obtain ⟨x0, x1⟩ := nearness_range (by omega) before
    have := blepSquare_range x0 x1
    rw [blep_before (by omega) before]
    constructor <;> omega
  · rw [blep_outside (by omega) (by omega)]
    decide

theorem blamp_within {t dt : Int} (h0 : 0 ≤ t) (h1 : t < 2 ^ 32) (hdt : 0 ≤ dt) : within 0 (blamp t dt) (dt / 384) := by
  by_cases after : t < dt
  · obtain ⟨x0, x1⟩ := nearness_range h0 after
    rw [blamp_after after]
    exact blampAt_within hdt x0 x1
  by_cases before : 2 ^ 32 - t < dt
  · obtain ⟨x0, x1⟩ := nearness_range (by omega) before
    rw [blamp_before (by omega) before]
    exact blampAt_within hdt x0 x1
  · rw [blamp_outside (by omega) (by omega)]
    exact ⟨le_rfl, by omega⟩

theorem blep_zero {dt : Int} (h : 0 < dt) : blep 0 dt = -2 ^ 23 := by
  rw [blep_after h, nearness_zero]; rfl

theorem blamp_zero {dt : Int} (h : 0 < dt) : blamp 0 dt = dt / 384 := by
  rw [blamp_after h, nearness_zero, blampAt_zero]

/-- Half an increment from the discontinuity, on either side, the residuals are a quarter and an eighth (R153, R154). -/
theorem residuals_half {dt : Int} (h0 : 1 ≤ dt) (h1 : dt ≤ 2 ^ 31 - 1) (even : dt % 2 = 0) :
    blep (dt / 2) dt = -2 ^ 21 ∧ blep (2 ^ 32 - dt / 2) dt = 2 ^ 21 ∧
      blamp (dt / 2) dt = dt / 3072 ∧ blamp (2 ^ 32 - dt / 2) dt = dt / 3072 := by
  obtain ⟨m, rfl⟩ : ∃ m, dt = 2 * m := ⟨dt / 2, by omega⟩
  have near := nearness_half (m := m) (by omega)
  have near' : nearness (2 ^ 32 - (2 ^ 32 - m)) (2 * m) = 2 ^ 15 := by rw [sub_sub_cancel, near]
  rw [Int.mul_ediv_cancel_left m (by norm_num), blep_after (by omega), blep_before (by omega) (by omega),
    blamp_after (by omega), blamp_before (by omega) (by omega), near, near', blampAt_half]
  exact ⟨rfl, rfl, rfl, rfl⟩

/-- The step residual is full at the discontinuity alone. -/
theorem blepSquare_eq_iff {x : Int} (h0 : 0 ≤ x) (h1 : x < 2 ^ 16) : asr ((2 ^ 16 - x) ^ 2) 9 = 2 ^ 23 ↔ x = 0 := by
  refine ⟨fun full => ?_, fun zero => by rw [zero]; rfl⟩
  by_contra ne
  have : asr ((2 ^ 16 - x) ^ 2) 9 < 2 ^ 23 := by
    rw [asr, fdiv_lt_iff (by norm_num)]
    nlinarith [show 1 ≤ x by omega]
  omega

/-- A phase step before the discontinuity is nearest possible exactly for increments above 2^16 (log entry 9). -/
theorem nearness_one_eq_zero_iff {dt : Int} (h : 1 < dt) : nearness 1 dt = 0 ↔ 2 ^ 16 < dt := by
  have range := nearness_range (d := 1) (by norm_num) h
  have lt : nearness 1 dt < 1 ↔ shl 1 16 < 1 * dt := fdiv_lt_iff (by omega)
  rw [shl] at lt
  omega

theorem blep_last_eq_iff {dt : Int} (h0 : 1 ≤ dt) (h1 : dt ≤ 2 ^ 31 - 1) :
    blep (2 ^ 32 - 1) dt = 2 ^ 23 ↔ 2 ^ 16 < dt := by
  by_cases one : dt = 1
  · subst one; decide
  · have range := nearness_range (d := 1) (dt := dt) (by norm_num) (by omega)
    rw [blep_before (by omega) (by omega), sub_sub_cancel, blepSquare_eq_iff range.1 range.2,
      nearness_one_eq_zero_iff (by omega)]

/-- Settles O50: window by window. -/
theorem bandLimitingResidualsStayInRange : Obligations.BandLimitingResidualsStayInRange := fun _ _ t0 t1 dt0 dt1 =>
  ⟨blep_within t0 t1, blamp_within t0 t1 (by omega), by omega, fun h h' => ⟨blep_outside h h', blamp_outside h h'⟩,
    blep_zero dt0, blamp_zero dt0, residuals_half dt0 dt1, blep_last_eq_iff dt0 dt1⟩

/-! ## The outputs and the mix (R155, R157) -/

/-- What never falls below the S24 range is limited at its peak alone. -/
theorem sat24_eq_min {v : Int} (h : -2 ^ 23 ≤ v) : sat24 v = min v (2 ^ 23 - 1) := by
  rw [sat24, clamp_eq_max_min (by norm_num)]; omega

/-- The outputs at the corners of each waveform (R155). -/
theorem osc_at_corners {dt : Int} (h0 : 1 ≤ dt) (h1 : dt ≤ 2 ^ 31 - 1) :
    osc .saw 0 dt = 0 ∧ osc .square 0 dt = 0 ∧ osc .square (2 ^ 31) dt = 0 ∧ osc .sine (2 ^ 30) dt = 2 ^ 23 - 1 ∧
    osc .triangle (2 ^ 30) dt = min (2 ^ 23 - dt / 384) (2 ^ 23 - 1) ∧
    osc .triangle (3 * 2 ^ 30) dt = -(2 ^ 23 - dt / 384) := by
  have step := blep_zero (dt := dt) h0
  have ramp := blamp_zero (dt := dt) h0
  have step' : blep (2 ^ 31) dt = 0 := blep_outside (by omega) (by omega)
  have ramp' : blamp (2 ^ 31) dt = 0 := blamp_outside (by omega) (by omega)
  refine ⟨?saw, ?square, ?squareHalf, ?sine, ?peak, ?trough⟩
  case saw => rw [osc, oscRaw, step]; rfl
  case square => rw [osc, oscRaw, step, show wrap32 (0 + 2 ^ 31) = 2 ^ 31 from rfl, step']; rfl
  case squareHalf => rw [osc, oscRaw, step', show wrap32 (2 ^ 31 + 2 ^ 31) = 0 from rfl, step]; rfl
  case sine => rw [osc, oscRaw, show sine (2 ^ 30) = 2 ^ 23 from (sine_segment_start 256).trans sineRom_peak]; rfl
  case peak =>
    rw [osc, oscRaw, show wrap32 (2 ^ 30 - 2 ^ 30) = 0 from rfl, show wrap32 (2 ^ 30 - 3 * 2 ^ 30) = 2 ^ 31 from rfl,
      ramp, ramp', show triN (2 ^ 30) = 2 ^ 23 from rfl, add_zero]
    exact sat24_eq_min (by omega)
  case trough =>
    rw [osc, oscRaw, show wrap32 (3 * 2 ^ 30 - 2 ^ 30) = 2 ^ 31 from rfl,
      show wrap32 (3 * 2 ^ 30 - 3 * 2 ^ 30) = 0 from rfl, ramp, ramp', show triN (3 * 2 ^ 30) = -2 ^ 23 from rfl, sat24_eq_self (by omega) (by omega)]
    omega

theorem osc_sine {t : Int} (h0 : 0 ≤ t) (h1 : t < 2 ^ 32) (dt : Int) : osc .sine t dt = min (sine t) (2 ^ 23 - 1) :=
  sat24_eq_min (sine_range h0 h1).1

theorem osc_saw_outside {t dt : Int} (h0 : 0 ≤ t) (h1 : t < 2 ^ 32) (after : dt ≤ t) (before : dt ≤ 2 ^ 32 - t) :
    osc .saw t dt = t / 2 ^ 8 - 2 ^ 23 := by
  rw [osc, oscRaw, blep_outside after before, sub_zero, asr, fdiv]
  exact sat24_eq_self (by omega) (by omega)

theorem osc_square_high {t dt : Int} (h0 : 1 ≤ dt) (after : dt ≤ t) (before : dt ≤ 2 ^ 31 - t) :
    osc .square t dt = 2 ^ 23 - 1 := by
  rw [osc, oscRaw, if_pos (by omega), wrap32_eq_self (by omega) (by omega), blep_outside after (by omega),
    blep_outside (by omega) (by omega)]
  rfl

theorem osc_square_low {t dt : Int} (h0 : 1 ≤ dt) (after : dt ≤ t - 2 ^ 31) (before : dt ≤ 2 ^ 32 - t) :
    osc .square t dt = -2 ^ 23 := by
  have wrapped : wrap32 (t + 2 ^ 31) = t - 2 ^ 31 := by unfold wrap32; omega
  rw [osc, oscRaw, if_neg (by omega), wrapped, blep_outside (by omega) before, blep_outside after (by omega)]
  rfl

theorem osc_triangle_outside {t dt : Int} (h0 : 0 ≤ t) (h1 : t < 2 ^ 32)
    (up : dt ≤ wrap32 (t - 2 ^ 30)) (up' : dt ≤ 2 ^ 32 - wrap32 (t - 2 ^ 30))
    (down : dt ≤ wrap32 (t - 3 * 2 ^ 30)) (down' : dt ≤ 2 ^ 32 - wrap32 (t - 3 * 2 ^ 30)) :
    osc .triangle t dt = min (triN t) (2 ^ 23 - 1) := by
  rw [osc, oscRaw, blamp_outside up up', blamp_outside down down', sub_zero, add_zero]
  exact sat24_eq_min (triN_range h0 h1).1

/-- A weighted mean of two samples lies between them. -/
theorem weighted_mean_between {a b m : Int} (h0 : 0 ≤ m) (h1 : m ≤ 2 ^ 23) :
    min a b ≤ fdiv (a * (2 ^ 23 - m) + b * m) (2 ^ 23) ∧ fdiv (a * (2 ^ 23 - m) + b * m) (2 ^ 23) ≤ max a b := by
  have loA := mul_le_mul_of_nonneg_right (min_le_left a b) (show 0 ≤ 2 ^ 23 - m by omega)
  have loB := mul_le_mul_of_nonneg_right (min_le_right a b) h0
  have hiA := mul_le_mul_of_nonneg_right (le_max_left a b) (show 0 ≤ 2 ^ 23 - m by omega)
  have hiB := mul_le_mul_of_nonneg_right (le_max_right a b) h0
  constructor
  · rw [fdiv_le_iff (by norm_num)]; linarith
  · rw [← Int.lt_add_one_iff, fdiv_lt_iff (by norm_num)]; linarith

/-- The mix of two samples needs no saturation. -/
theorem mix_between {a b m : Int} (ha : within (-2 ^ 23) a (2 ^ 23 - 1)) (hb : within (-2 ^ 23) b (2 ^ 23 - 1)) (h0 : 0 ≤ m)
    (h1 : m ≤ 2 ^ 23) : min a b ≤ mix a b m ∧ mix a b m ≤ max a b := by
  have mean := weighted_mean_between (a := a) (b := b) h0 h1
  rw [mix, sat24_eq_self (by omega) (by omega)]
  exact mean

theorem mix_zero {a : Int} (b : Int) (ha : within (-2 ^ 23) a (2 ^ 23 - 1)) : mix a b 0 = a := by
  rw [mix, mul_zero, add_zero, sub_zero, fdiv_mul_self (by norm_num), sat24_eq_self ha.1 ha.2]

theorem mix_full (a : Int) {b : Int} (hb : within (-2 ^ 23) b (2 ^ 23 - 1)) : mix a b (2 ^ 23) = b := by
  rw [mix, sub_self, mul_zero, zero_add, fdiv_mul_self (by norm_num), sat24_eq_self hb.1 hb.2]

/-- Settles O51: each waveform in its corners and outside its windows. -/
theorem oscillatorMidpointsAndMix : Obligations.OscillatorMidpointsAndMix :=
  ⟨osc_range, fun _ => osc_at_corners,
    fun _ dt t0 t1 dt0 _ => ⟨osc_sine t0 t1 dt, osc_saw_outside t0 t1, osc_square_high dt0, osc_square_low dt0,
      osc_triangle_outside t0 t1⟩,
    fun a b ha hb => ⟨mix_zero b ha, mix_full a hb, fun _ => mix_between ha hb⟩⟩

end Sys2Proof.Machine
end
